-- ==== Sys2Proof/Word.lean ====
section
/-! DEFINITION. The widths of the JSEA block's values (spec/00_scope.md R6, R8) and of its three
lane words (spec/30_encoding.md R81, R82, R83). -/

namespace Sys2Proof

/-- An 8-bit value: STIR, a byte of BLOCK, a sample, a bus data byte (R8). -/
abbrev Byte := BitVec 8

/-- The 6-bit SampleCount register (R8, R21). -/
abbrev Count := BitVec 6

/-- A register offset, `addr[3:0]` (R31, R81). -/
abbrev Offset := BitVec 4

/-- Format BUS: B[13:0], the fields req, we, addr, data (R81). -/
abbrev BusWord := BitVec 14

/-- Format TICK: T[8:0], the fields tick, smp (R82). -/
abbrev TickWord := BitVec 9

/-- Format BTN: K[0], the field btn_n (R83). -/
abbrev BtnWord := BitVec 1

end Sys2Proof
end

