-- ==== Sys2Proof/Machine/Operands.lean ====
section
/-! DEFINITION. The fields of the lane words and the bits of the CTRL command byte
(spec/30_encoding.md R81 to R84, spec/10_state.md R31, R35). No operand is extended, scaled or
shifted (R84). -/

namespace Sys2Proof.Machine

/-- `req`, B[13]: a bus transaction is presented (R81). -/
def busReq (b : BusWord) : Bool := b.getLsbD 13

/-- `we`, B[12]: 1 write, 0 read (R81). -/
def busWe (b : BusWord) : Bool := b.getLsbD 12

/-- `addr`, B[11:8]: the register offset, an unsigned 4-bit number (R81, R84). -/
def busOffset (b : BusWord) : Offset := b.extractLsb' 8 4

/-- `data`, B[7:0]: the write data (R81, R84). -/
def busData (b : BusWord) : Byte := b.extractLsb' 0 8

/-- `idx`, B[10:8], as the low three bits of the offset (R84). -/
def offsetBlock (off : Offset) : BitVec 3 := off.extractLsb' 0 3

/-- Which reserved offset, 0x4 + the low two bits (R85, R39). -/
def offsetRsvd (off : Offset) : BitVec 2 := off.extractLsb' 0 2

/-- Which of the offsets 0x2 (COUNT) and 0x3 (STIR) (R85). -/
def offsetRo (off : Offset) : BitVec 1 := off.extractLsb' 0 1

/-- `tick`, T[8]: one jitter tick is presented (R82). -/
def tickBit (t : TickWord) : Bool := t.getLsbD 8

/-- `smp`, T[7:0]: the sample, used unchanged (R82, R84). -/
def tickSample (t : TickWord) : Byte := t.extractLsb' 0 8

/-- `btn_n`, K[0]: 1 released, 0 pressed (R83). -/
def btnLevel (k : BtnWord) : Bool := k.getLsbD 0

/-- CTRL bit 0, BEGIN (R35, R114). -/
def ctrlBegin (d : Byte) : Bool := d.getLsbD 0

/-- CTRL bit 1, CLR_READY (R35, R115). -/
def ctrlClrReady (d : Byte) : Bool := d.getLsbD 1

/-- CTRL bit 2, ARM, before DISARM's precedence (R35, R153). -/
def ctrlArm (d : Byte) : Bool := d.getLsbD 2

/-- CTRL bit 3, DISARM (R35, R154). -/
def ctrlDisarm (d : Byte) : Bool := d.getLsbD 3

/-- CTRL bit 4, CLR_REQ (R35, R155). -/
def ctrlClrReq (d : Byte) : Bool := d.getLsbD 4

end Sys2Proof.Machine
end

