-- ==== Sys2Proof/Syntax.lean ====
section
/-! DEFINITION. The operations of the three lanes, one constructor for each row of
spec/opcode_table.json (spec/30_encoding.md R85, R86, R87), and a cycle's triple of them (R93). -/

namespace Sys2Proof

/-- The three per-cycle inputs, each carrying exactly one operation in every cycle (R80). -/
inductive Lane where
  | bus
  | tick
  | btn
deriving DecidableEq, Repr

/-- The rows of the opcode table by name. -/
inductive Op where
  | BUS_IDLE | RD_STATUS | RD_CTRL | RD_COUNT | RD_STIR | RD_RSVD | RD_BLOCK
  | WR_STATUS | WR_CTRL | WR_RO | WR_RSVD | WR_BLOCK
  | TICK | NO_TICK
  | BTN_LOW | BTN_HIGH
deriving DecidableEq, Repr

/-- One lane operation with its operands (R84). A bit that the patterns of R85 to R87 mark `x` with no
field name is ignored (R88) and is not held; offsets and data bytes are held even where the
operation ignores them. -/
inductive Instr where
  /-- BUS_IDLE: no transaction (R189). -/
  | busIdle
  /-- RD_STATUS: read offset 0x0 (R181). -/
  | rdStatus
  /-- RD_CTRL: read offset 0x1 (R182). -/
  | rdCtrl
  /-- RD_COUNT: read offset 0x2 (R183). -/
  | rdCount
  /-- RD_STIR: read offset 0x3 (R184). -/
  | rdStir
  /-- RD_RSVD: read the reserved offset 0x4 + `off` (R185). -/
  | rdRsvd (off : BitVec 2)
  /-- RD_BLOCK: read BLOCK[`idx`] at offset 0x8 + `idx` (R186). -/
  | rdBlock (idx : BitVec 3)
  /-- WR_STATUS: write offset 0x0, ignored (R188). -/
  | wrStatus (d : Byte)
  /-- WR_CTRL: write the command byte `d` (R187). -/
  | wrCtrl (d : Byte)
  /-- WR_RO: write offset 0x2 + `off`, ignored (R188). -/
  | wrRo (off : BitVec 1) (d : Byte)
  /-- WR_RSVD: write offset 0x4 + `off`, ignored (R188). -/
  | wrRsvd (off : BitVec 2) (d : Byte)
  /-- WR_BLOCK: write offset 0x8 + `idx`, ignored (R188). -/
  | wrBlock (idx : BitVec 3) (d : Byte)
  /-- TICK: one jitter tick with sample `smp` (R112). -/
  | tick (smp : Byte)
  /-- NO_TICK: no jitter tick (R113). -/
  | noTick
  /-- BTN_LOW: the button level is 0, pressed (R151). -/
  | btnLow
  /-- BTN_HIGH: the button level is 1, released (R152). -/
  | btnHigh
deriving DecidableEq, Repr

/-- The opcode-table row of an operation. -/
def Instr.op : Instr → Op
  | .busIdle => .BUS_IDLE
  | .rdStatus => .RD_STATUS
  | .rdCtrl => .RD_CTRL
  | .rdCount => .RD_COUNT
  | .rdStir => .RD_STIR
  | .rdRsvd _ => .RD_RSVD
  | .rdBlock _ => .RD_BLOCK
  | .wrStatus _ => .WR_STATUS
  | .wrCtrl _ => .WR_CTRL
  | .wrRo _ _ => .WR_RO
  | .wrRsvd _ _ => .WR_RSVD
  | .wrBlock _ _ => .WR_BLOCK
  | .tick _ => .TICK
  | .noTick => .NO_TICK
  | .btnLow => .BTN_LOW
  | .btnHigh => .BTN_HIGH

/-- The lane that carries a row's operation (the table's "format"). -/
def Op.lane : Op → Lane
  | .BUS_IDLE | .RD_STATUS | .RD_CTRL | .RD_COUNT | .RD_STIR | .RD_RSVD | .RD_BLOCK
  | .WR_STATUS | .WR_CTRL | .WR_RO | .WR_RSVD | .WR_BLOCK => .bus
  | .TICK | .NO_TICK => .tick
  | .BTN_LOW | .BTN_HIGH => .btn

/-- The lane that carries an operation. -/
def Instr.lane (i : Instr) : Lane := i.op.lane

/-- The operations of one cycle, one for each lane (R80, R93). -/
structure CycleOps where
  bus : Instr
  tick : Instr
  btn : Instr
deriving DecidableEq, Repr

/-- The word of one lane (R81, R82, R83). -/
inductive LaneWord where
  | bus (b : BusWord)
  | tick (t : TickWord)
  | btn (k : BtnWord)
deriving DecidableEq, Repr

/-- The lane a word stands on. -/
def LaneWord.lane : LaneWord → Lane
  | .bus _ => .bus
  | .tick _ => .tick
  | .btn _ => .btn

end Sys2Proof
end

