-- ==== Sys2Proof/Decode.lean ====
section
/-! DEFINITION. Decoding the three lanes, the decode table of spec/30_encoding.md R85 to R87 as data,
and the encoder. Every lane word decodes: no encoding is illegal and none traps (R89). -/

namespace Sys2Proof

open Sys2Proof.Machine

/-- A bus read of offset `off`, by the register map (R85, R59). -/
def decodeRead (off : Offset) : Instr :=
  if off = 0x0#4 then .rdStatus
  else if off = 0x1#4 then .rdCtrl
  else if off = 0x2#4 then .rdCount
  else if off = 0x3#4 then .rdStir
  else if off.getLsbD 3 then .rdBlock (offsetBlock off)
  else .rdRsvd (offsetRsvd off)

/-- A bus write of `d` to offset `off` (R85). -/
def decodeWrite (off : Offset) (d : Byte) : Instr :=
  if off = 0x0#4 then .wrStatus d
  else if off = 0x1#4 then .wrCtrl d
  else if off.getLsbD 3 then .wrBlock (offsetBlock off) d
  else if off.getLsbD 2 then .wrRsvd (offsetRsvd off) d
  else .wrRo (offsetRo off) d

/-- The bus lane (R85): idle without `req`, else a read or a write of the offset. -/
def decodeBus (b : BusWord) : Instr :=
  if busReq b then
    if busWe b then decodeWrite (busOffset b) (busData b) else decodeRead (busOffset b)
  else .busIdle

/-- The tick lane (R86). -/
def decodeTick (t : TickWord) : Instr :=
  if tickBit t then .tick (tickSample t) else .noTick

/-- The button lane (R87). Whether BTN_LOW is a falling edge depends on BTN_PREV, not on the word. -/
def decodeBtn (k : BtnWord) : Instr :=
  if btnLevel k then .btnHigh else .btnLow

/-- One lane's word, decoded independently of the other lanes (R80). -/
def decode : LaneWord → Instr
  | .bus b => decodeBus b
  | .tick t => decodeTick t
  | .btn k => decodeBtn k

/-- A row of the decode tables of R85, R86, R87: the word w is of the row when w & mask = pattern. -/
structure DecodeRow (width : Nat) where
  op : Op
  mask : BitVec width
  pattern : BitVec width
deriving DecidableEq, Repr

/-- The table of R85, row for row. -/
def busRows : List (DecodeRow 14) :=
  [ ⟨.BUS_IDLE, 0x2000#14, 0x0000#14⟩,
    ⟨.RD_STATUS, 0x3F00#14, 0x2000#14⟩,
    ⟨.RD_CTRL, 0x3F00#14, 0x2100#14⟩,
    ⟨.RD_COUNT, 0x3F00#14, 0x2200#14⟩,
    ⟨.RD_STIR, 0x3F00#14, 0x2300#14⟩,
    ⟨.RD_RSVD, 0x3C00#14, 0x2400#14⟩,
    ⟨.RD_BLOCK, 0x3800#14, 0x2800#14⟩,
    ⟨.WR_STATUS, 0x3F00#14, 0x3000#14⟩,
    ⟨.WR_CTRL, 0x3F00#14, 0x3100#14⟩,
    ⟨.WR_RO, 0x3E00#14, 0x3200#14⟩,
    ⟨.WR_RSVD, 0x3C00#14, 0x3400#14⟩,
    ⟨.WR_BLOCK, 0x3800#14, 0x3800#14⟩ ]

/-- The table of R86. -/
def tickRows : List (DecodeRow 9) :=
  [ ⟨.TICK, 0x100#9, 0x100#9⟩,
    ⟨.NO_TICK, 0x100#9, 0x000#9⟩ ]

/-- The table of R87. -/
def btnRows : List (DecodeRow 1) :=
  [ ⟨.BTN_LOW, 0x1#1, 0x0#1⟩,
    ⟨.BTN_HIGH, 0x1#1, 0x1#1⟩ ]

/-- A bus word from its fields (R81): a read of offset a is 0x2000 | a << 8, a write of d to a is
0x3000 | a << 8 | d. -/
def busWord (req we : BitVec 1) (off : Offset) (d : Byte) : BusWord := req ++ we ++ off ++ d

/-- The word of an operation (R85, R86, R87), every ignored bit (R88) written as 0. -/
def encode : Instr → LaneWord
  | .busIdle => .bus (busWord 0#1 0#1 0x0#4 0x00#8)
  | .rdStatus => .bus (busWord 1#1 0#1 0x0#4 0x00#8)
  | .rdCtrl => .bus (busWord 1#1 0#1 0x1#4 0x00#8)
  | .rdCount => .bus (busWord 1#1 0#1 0x2#4 0x00#8)
  | .rdStir => .bus (busWord 1#1 0#1 0x3#4 0x00#8)
  | .rdRsvd off => .bus (busWord 1#1 0#1 (0b01#2 ++ off) 0x00#8)
  | .rdBlock idx => .bus (busWord 1#1 0#1 (0b1#1 ++ idx) 0x00#8)
  | .wrStatus d => .bus (busWord 1#1 1#1 0x0#4 d)
  | .wrCtrl d => .bus (busWord 1#1 1#1 0x1#4 d)
  | .wrRo off d => .bus (busWord 1#1 1#1 (0b001#3 ++ off) d)
  | .wrRsvd off d => .bus (busWord 1#1 1#1 (0b01#2 ++ off) d)
  | .wrBlock idx d => .bus (busWord 1#1 1#1 (0b1#1 ++ idx) d)
  | .tick smp => .tick (0b1#1 ++ smp)
  | .noTick => .tick 0x000#9
  | .btnLow => .btn 0x0#1
  | .btnHigh => .btn 0x1#1

/-- The bits of an operation's bus word that its decoding does not ignore (R88). -/
def busCareMask : Op → BusWord
  | .BUS_IDLE => 0x2000#14
  | .RD_STATUS | .RD_CTRL | .RD_COUNT | .RD_STIR | .RD_RSVD | .RD_BLOCK => 0x3F00#14
  | _ => 0x3FFF#14

/-- The lane word that the number `w` of `nbits` bits stands for, as the host numbers it. The lanes are
separate wires (R80), so a number alone names no lane: the width does. Up to 8 bits is the button
lane (1 bit), exactly 14 the bus lane, 9 to 13 the tick lane (9 bits). At 15 or 16 bits, which both
the bus lane's 14 and the tick lane's 9 round up to, the number is the narrower lane's word if it
fits there. DESIGN CHOICE, log entry 4. A number that fits no lane is refused. -/
def laneWordOf (nbits w : Nat) : Option LaneWord :=
  if nbits = 0 ∨ 16 < nbits then none
  else if nbits ≤ 8 then (if w < 2 ^ 1 then some (.btn (BitVec.ofNat 1 w)) else none)
  else if nbits ≠ 14 ∧ w < 2 ^ 9 then some (.tick (BitVec.ofNat 9 w))
  else if 14 ≤ nbits ∧ w < 2 ^ 14 then some (.bus (BitVec.ofNat 14 w))
  else none

/-- The instruction the decoder reads from the number `w` of `nbits` bits. -/
def decodeTableWord (nbits w : Nat) : Option Instr := (laneWordOf nbits w).map decode

end Sys2Proof
end

