-- ==== Sys2Proof/Config.lean ====
section
/-! DEFINITION. The block's parameters (spec/00_scope.md R6), those the spec leaves OPEN, and the free
values of the input ports (spec/93_implementation_defined.md U1, U2, U3). An `opaque` constant has
no body: nothing can evaluate it, so a claim holds whatever its value is. -/

namespace Sys2Proof

/-- NBYTES, the bytes in RandomBlock (R6). -/
@[simp] abbrev Config.nBytes : Nat := 8

/-- TICKS_PER_BYTE (R6). -/
@[simp] abbrev Config.ticksPerByte : Nat := 8

/-- NTICKS, the ticks of one collection (R6). -/
@[simp] abbrev Config.nTicks : Nat := 64

/-- BASE, the platform address of offset 0 (R6, R51, U8): OPEN. -/
opaque Config.base : Nat

/-- The host's compile-time constants (R6, D31, U9): OPEN, so arguments of every claim about a host. No rule of the
block names one. -/
structure HostTunables where
  /-- ROW_DELAY; no duty depends on it (R273). -/
  rowDelay : Nat
  /-- SHOW_CYCLES, the raster passes of a Displaying episode (R199). -/
  showCycles : Nat
  /-- NEXT_ALLOW_CYCLE, the raster passes of the debounce window (R196). -/
  nextAllowCycle : Nat
deriving DecidableEq, Repr

/-- The level of `rst_n` in a cycle for which the environment has placed no pin values: FREE.
DESIGN CHOICE, log entry 2: the spec bounds no input port. -/
opaque Config.freeRstN : Nat → Bool

/-- The bus lane in such a cycle: FREE, any bus operation (R190). DESIGN CHOICE, log entry 2. -/
opaque Config.freeBus : Nat → BusWord

/-- The tick lane in such a cycle: FREE, a draw of the tick bit and of the sample (U1, U2, R122).
DESIGN CHOICE, log entry 2. -/
opaque Config.freeTick : Nat → TickWord

/-- The button lane in such a cycle: FREE, a draw (U3). DESIGN CHOICE, log entry 2. -/
opaque Config.freeBtn : Nat → BtnWord

end Sys2Proof
end

