-- ==== Sys2Proof/Machine/State.lean ====
section
/-! DEFINITION. The block's state (spec/10_state.md section 1, R20 to R27) as plain data, the values of its
input ports (R31), the reasons a step can stop, and the state after reset (spec/70_reset_and_hazards.md
R260). -/

namespace Sys2Proof.Machine

/-- The input ports in one cycle (R31): `rst_n`; req, we, addr, wdata as the bus word; tick, smp as the
tick word; `btn_n`. With `rst_n` = 1 this is the triple (B, T, K) of R93. -/
structure Pins where
  rstN : Bool
  bus : BusWord
  tick : TickWord
  btn : BtnWord
deriving DecidableEq, Repr

/-- The block. The first eight fields are the spec's state, whole ("Nothing else is state"); the last
three are the model's own. -/
@[ext]
structure State where
  /-- STIR, the stirrer accumulator (R20). -/
  stir : Byte
  /-- COUNT, the ticks taken in the current collection, 0..63 (R21). -/
  count : Count
  /-- BLOCK[0..7], the random block (R22, R41). -/
  block : Vector Byte 8
  /-- READY (R23). -/
  ready : Bool
  /-- COLLECTING (R24). -/
  collecting : Bool
  /-- BTN_ARMED (R25). -/
  btnArmed : Bool
  /-- BTN_REQ (R26). -/
  btnReq : Bool
  /-- BTN_PREV, the level of `btn_n` in the previous cycle (R27). -/
  btnPrev : Bool
  /-- The model's own: the output port `rdata` (R30, R180) as it was driven in the last cycle.
  DEDUCED, log entry 3. -/
  rdata : Byte
  /-- The model's own: the pin values the environment has placed for the cycles to come, the next first.
  DESIGN CHOICE, log entry 1. -/
  pending : List Pins
  /-- The model's own: the cycles taken, the argument of the free values of the input ports.
  DESIGN CHOICE, log entry 2. -/
  cycle : Nat
deriving DecidableEq, Repr

/-- Faults: none. "The block has no synchronous exceptions, error responses or fault states" (R220). Nobody
raises one, which is exact. -/
inductive Fault : Type
deriving DecidableEq, Repr

/-- Reasons to give no next state. -/
inductive Refusal where
  /-- An operation that has no meaning yet. Raised by nobody: every arm of `exec` has its meaning, and
  every lane word decodes (R89). Safe. -/
  | notModelled (mnemonic : String)
deriving DecidableEq, Repr

/-- What a step answers. -/
abbrev Result := Host.Outcome State Fault Refusal

/-- The state after reset (R260): STIR 0x00, COUNT 0, BLOCK 0x00 each, every flag 0, BTN_PREV 1. `rdata` is the
0x00 of a reset cycle (R260); no pin values are placed and no cycle is counted (log entries 1, 2). -/
def State.reset : State where
  stir := 0x00#8
  count := 0#6
  block := Vector.replicate 8 0x00#8
  ready := false
  collecting := false
  btnArmed := false
  btnReq := false
  btnPrev := true
  rdata := 0x00#8
  pending := []
  cycle := 0

end Sys2Proof.Machine
end

