-- ==== Sys2Proof/Machine/Flags.lean ====
section
/-! DEFINITION. The flags READY, COLLECTING, BTN_ARMED, BTN_REQ (spec/10_state.md R40): the STATUS byte
that shows them, and the five commands of a CTRL write that change them. -/

namespace Sys2Proof.Machine

/-- STATUS (R34, R181): bit 0 COLLECTING, bit 1 READY, bit 2 BTN_ARMED, bit 3 BTN_REQ, bits 7:4 zero. -/
def State.statusByte (s : State) : Byte :=
  0b0000#4 ++ BitVec.ofBool s.btnReq ++ BitVec.ofBool s.btnArmed ++ BitVec.ofBool s.ready
    ++ BitVec.ofBool s.collecting

/-- BEGIN: COLLECTING is set and nothing else is written (R114). -/
def State.begin (s : State) : State := { s with collecting := true }

/-- CLR_READY: READY is cleared (R115). -/
def State.clrReady (s : State) : State := { s with ready := false }

/-- ARM: BTN_ARMED is set (R153). -/
def State.arm (s : State) : State := { s with btnArmed := true }

/-- DISARM: BTN_ARMED is cleared; a request already latched stays (R154). -/
def State.disarm (s : State) : State := { s with btnArmed := false }

/-- CLR_REQ: BTN_REQ is cleared; it does not re-arm (R155). -/
def State.clrReq (s : State) : State := { s with btnReq := false }

/-- A command bit written as 1 performs its command; written as 0 it does nothing (R35). -/
def State.command (bit : Bool) (act : State → State) (s : State) : State :=
  if bit then act s else s

/-- The commands of the CTRL byte `d`, in the written order of R187. DISARM takes precedence over ARM (D7);
bits 7:5 are ignored (R89). -/
def State.ctrlCommands (d : Byte) (s : State) : State :=
  let s := s.command (ctrlClrReady d) State.clrReady
  let s := s.command (ctrlBegin d) State.begin
  let s := s.command (ctrlClrReq d) State.clrReq
  if ctrlDisarm d then s.disarm else s.command (ctrlArm d) State.arm

end Sys2Proof.Machine
end

