-- ==== Sys2Proof/Machine/Ops.lean ====
section
/-! DEFINITION. The operations the meanings share: the stirrer, the block's registers and the register map,
the output ports, taking the two interrupt sources, the reset cycle, and the input ports. -/

namespace Sys2Proof.Machine

/-- The rest of a cycle runs on the state its first part leaves. -/
def andThen (o : Result) (f : State → Result) : Result :=
  match o with
  | .next s => f s
  | .fault r => .fault r
  | .refused r => .refused r

/-- `rotl8(v) = ((v << 1) | (v >> 7)) & 0xFF` (R9, R111). -/
def rotl8 (v : Byte) : Byte := (v <<< 1) ||| (v >>> 7)

/-- `stir(s, x) = rotl8(s) ^ x` (R110). -/
def stir (s x : Byte) : Byte := rotl8 s ^^^ x

/-- The output `rdata` is driven with `v` in this cycle (R30, R180). -/
def State.drive (v : Byte) (s : State) : State := { s with rdata := v }

/-- BLOCK[i] (R22, R41). -/
def State.blockByte (s : State) (i : BitVec 3) : Byte := s.block.get (i.toFin)

/-- BLOCK[i] <- v (R112); i is in 0..7 wherever it is used (R123). -/
def State.setBlock (i : Nat) (v : Byte) (s : State) : State :=
  { s with block := s.block.setIfInBounds i v }

/-- The output `tick_en` = COLLECTING (R30). -/
def State.tickEn (s : State) : Bool := s.collecting

/-- The output `ready_o` = READY (R30). -/
def State.readyO (s : State) : Bool := s.ready

/-- The output `btn_irq` = BTN_REQ, a level (R30, R223). -/
def State.btnIrq (s : State) : Bool := s.btnReq

/-- The register map as the host reads it, `RegRead(a)` (R10, R59). -/
def State.regRead (s : State) (a : Offset) : Byte :=
  if a = 0x0#4 then s.statusByte
  else if a = 0x1#4 then 0x00#8
  else if a = 0x2#4 then s.count.setWidth 8
  else if a = 0x3#4 then s.stir
  else if a.getLsbD 3 then s.blockByte (offsetBlock a)
  else 0x00#8

/-- `RegWrite(a, v)`: only offset 0x1 has effects, the commands of R35; every other write is ignored (R10,
R58, R188). -/
def State.regWrite (a : Offset) (v : Byte) (s : State) : State :=
  if a = 0x1#4 then s.ctrlCommands v else s

/-- Offset o is host address BASE + o, for every BASE (R51). -/
def hostAddress (a : Offset) : Nat := Config.base + a.toNat

/-- The offset of a host address, where it is one of the block's sixteen (R51). -/
def offsetOfAddress (addr : Nat) : Option Offset :=
  if Config.base ≤ addr ∧ addr < Config.base + 16 then
    some (BitVec.ofNat 4 (addr - Config.base))
  else none

/-- `MemRead(addr, 1)` = `RegRead(addr - BASE)`, only n = 1 exists (R10, R55). Other addresses are not the
block's. -/
def State.memRead (s : State) (addr : Nat) : Option Byte :=
  (offsetOfAddress addr).map s.regRead

/-- `MemWrite(addr, 1, v)` = `RegWrite(addr - BASE, v)` (R10, R55). -/
def State.memWrite (addr : Nat) (v : Byte) (s : State) : Option State :=
  (offsetOfAddress addr).map (fun a => s.regWrite a v)

/-- The 64-bit view of the block, value = Σ BLOCK[i] << (8·i): BLOCK[0] is least significant. A convention
of hosts; no rule of the block depends on it (R52). -/
def State.blockValue (s : State) : BitVec 64 :=
  s.blockByte 7 ++ s.blockByte 6 ++ s.blockByte 5 ++ s.blockByte 4
    ++ s.blockByte 3 ++ s.blockByte 2 ++ s.blockByte 1 ++ s.blockByte 0

/-- The display cell at row r, column i is bit i of BLOCK[r] (R53, information only). -/
def State.displayCell (s : State) (row col : BitVec 3) : Bool :=
  (s.blockByte row).getLsbD col.toNat

/-- A honoured tick with sample x, whole at one edge (R112, R226): the new STIR, the incremented count c in
1..64, BLOCK[c/8 - 1] where c is a multiple of 8, and the completion at c = 64, which stores 0. -/
def State.takeTick (x : Byte) (s : State) : State :=
  let st := Machine.stir s.stir x
  let c := s.count.toNat + 1
  let s := if c % Config.ticksPerByte = 0 then s.setBlock (c / Config.ticksPerByte - 1) st else s
  let s :=
    if c = Config.nTicks then { s with count := 0#6, ready := true, collecting := false }
    else { s with count := BitVec.ofNat 6 c }
  { s with stir := st }

/-- Taking the button interrupt, the block's whole interrupt entry (R225): BTN_REQ is set and BTN_ARMED
cleared. No state is saved, no mode changes and no vector is selected; there is no return, and only ARM
enables the source again (R227). -/
def State.takeButton (s : State) : State := { s with btnReq := true, btnArmed := false }

/-- BTN_PREV takes the cycle's button level (R27, R151, R152). -/
def State.notePrev (level : Bool) (s : State) : State := { s with btnPrev := level }

/-- The next state of a reset cycle, whatever the block held (R260). What the environment has placed for
later cycles and the cycle counter are not the block's and stay. -/
def State.resetBlock (s : State) : State :=
  { State.reset with pending := s.pending, cycle := s.cycle }

/-- The input ports of the next cycle: what the environment has placed, or free values (U1, U2, U3; log
entries 1, 2). -/
def State.pins (s : State) : Pins :=
  match s.pending with
  | p :: _ => p
  | [] => ⟨Config.freeRstN s.cycle, Config.freeBus s.cycle, Config.freeTick s.cycle, Config.freeBtn s.cycle⟩

/-- The next cycle's pin values are consumed. -/
def State.advance (s : State) : State := { s with pending := s.pending.tail, cycle := s.cycle + 1 }

/-- The environment presents `p` in the next cycle, before what it had placed. -/
def State.present (p : Pins) (s : State) : State := { s with pending := p :: s.pending }

end Sys2Proof.Machine
end

