-- ==== Sys2Proof/Machine/Bus.lean ====
section
/-! DEFINITION. The bus lane (spec/42_host_interface.md R181 to R189). A read drives `rdata` from the state
before the cycle's events and changes nothing else (R57, R61); in a cycle without a read `rdata` is 0x00
(R180). -/

namespace Sys2Proof.Machine

/-- BUS_IDLE (R189): no effect, `rdata` = 0x00. -/
def execBusIdle (s : State) : Result := .next (s.drive 0x00#8)

/-- RD_STATUS (R181). -/
def execRdStatus (s : State) : Result := .next (s.drive s.statusByte)

/-- RD_CTRL (R182): CTRL holds no state and reads 0x00. -/
def execRdCtrl (s : State) : Result := .next (s.drive 0x00#8)

/-- RD_COUNT (R183): COUNT zero-extended. -/
def execRdCount (s : State) : Result := .next (s.drive (s.count.setWidth 8))

/-- RD_STIR (R184). -/
def execRdStir (s : State) : Result := .next (s.drive s.stir)

/-- RD_RSVD (R185): a reserved offset reads 0x00 (R39). -/
def execRdRsvd (_off : BitVec 2) (s : State) : Result := .next (s.drive 0x00#8)

/-- RD_BLOCK (R186): BLOCK[idx] of S, whether or not a collection runs. -/
def execRdBlock (idx : BitVec 3) (s : State) : Result := .next (s.drive (s.blockByte idx))

/-- WR_STATUS (R188): ignored. -/
def execWrStatus (_d : Byte) (s : State) : Result := .next (s.drive 0x00#8)

/-- WR_CTRL (R187): the commands of `d`. -/
def execWrCtrl (d : Byte) (s : State) : Result := .next ((s.ctrlCommands d).drive 0x00#8)

/-- WR_RO (R188): a write to COUNT or STIR, ignored. -/
def execWrRo (_off : BitVec 1) (_d : Byte) (s : State) : Result := .next (s.drive 0x00#8)

/-- WR_RSVD (R188): a write to a reserved offset, ignored. -/
def execWrRsvd (_off : BitVec 2) (_d : Byte) (s : State) : Result := .next (s.drive 0x00#8)

/-- WR_BLOCK (R188): a write to BLOCK, ignored; only TICK writes BLOCK (R22). -/
def execWrBlock (_idx : BitVec 3) (_d : Byte) (s : State) : Result := .next (s.drive 0x00#8)

end Sys2Proof.Machine
end

