-- ==== Sys2Proof/Machine/Button.lean ====
section
/-! DEFINITION. The button lane (spec/41_button_arbiter.md R150, R151, R152). The button phase is the last of a
cycle and no earlier phase writes BTN_PREV, so the BTN_PREV it reads is that of S (R92). -/

namespace Sys2Proof.Machine

/-- BTN_LOW (R151): a falling edge is honoured while armed, taking the button interrupt; an edge while
disarmed is discarded (R159). BTN_PREV becomes 0 in every case. -/
def execBtnLow (s : State) : Result :=
  .next ((if s.btnPrev && s.btnArmed then s.takeButton else s).notePrev false)

/-- BTN_HIGH (R152): BTN_PREV becomes 1; a rising edge has no other effect. -/
def execBtnHigh (s : State) : Result := .next (s.notePrev true)

end Sys2Proof.Machine
end

