-- ==== Sys2Proof/Machine/Collector.lean ====
section
/-! DEFINITION. The tick lane (spec/40_sampler_stirrer_collector.md R112, R113). -/

namespace Sys2Proof.Machine

/-- TICK (R112): honoured while COLLECTING = 1, otherwise discarded and not remembered (D12). -/
def execTick (smp : Byte) (s : State) : Result :=
  .next (if s.collecting then s.takeTick smp else s)

/-- NO_TICK (R113): no effect. -/
def execNoTick (s : State) : Result := .next s

end Sys2Proof.Machine
end

