-- ==== Sys2Proof/Machine/Dispatch.lean ====
section
/-! DEFINITION. The meaning of each lane operation: one phase of a cycle (spec/30_encoding.md R92). -/

namespace Sys2Proof.Machine

def exec (i : Instr) (s : State) : Host.Outcome State Fault Refusal :=
  match i with
  | .busIdle => Sys2Proof.Machine.execBusIdle s
  | .rdStatus => Sys2Proof.Machine.execRdStatus s
  | .rdCtrl => Sys2Proof.Machine.execRdCtrl s
  | .rdCount => Sys2Proof.Machine.execRdCount s
  | .rdStir => Sys2Proof.Machine.execRdStir s
  | .rdRsvd off => Sys2Proof.Machine.execRdRsvd off s
  | .rdBlock idx => Sys2Proof.Machine.execRdBlock idx s
  | .wrStatus d => Sys2Proof.Machine.execWrStatus d s
  | .wrCtrl d => Sys2Proof.Machine.execWrCtrl d s
  | .wrRo off d => Sys2Proof.Machine.execWrRo off d s
  | .wrRsvd off d => Sys2Proof.Machine.execWrRsvd off d s
  | .wrBlock idx d => Sys2Proof.Machine.execWrBlock idx d s
  | .tick smp => Sys2Proof.Machine.execTick smp s
  | .noTick => Sys2Proof.Machine.execNoTick s
  | .btnLow => Sys2Proof.Machine.execBtnLow s
  | .btnHigh => Sys2Proof.Machine.execBtnHigh s

end Sys2Proof.Machine
end

