-- ==== Sys2Proof/WellFormed.lean ====
section
/-! DEFINITION. What is well formed. The operand types hold exactly the values an encoding admits
(R84), and "No encoding is illegal" (spec/30_encoding.md R89), so a single operation has no check of
its own. A CYCLE has one for each lane: "Every cycle presents exactly one operation on each of
three lanes" (R80), so an operation of another lane may not stand there. -/

namespace Sys2Proof

/-- The operation stands on the lane `l` (R80). -/
def Instr.onLane (l : Lane) (i : Instr) : Bool := i.lane == l

/-- A cycle carries a bus operation, a tick-lane operation and a button-lane operation (R80, R93). -/
def CycleOps.wellFormed (c : CycleOps) : Bool :=
  c.bus.onLane .bus && c.tick.onLane .tick && c.btn.onLane .btn

end Sys2Proof
end

