-- ==== Sys2Proof/Machine/Cycle.lean ====
section
/-! DEFINITION. One clock cycle (spec/30_encoding.md R92, R93; spec/70_reset_and_hazards.md R260). -/

namespace Sys2Proof.Machine

/-- The three operations of a cycle, each lane decoded independently (R80). -/
def Pins.ops (p : Pins) : CycleOps := ⟨decodeBus p.bus, decodeTick p.tick, decodeBtn p.btn⟩

/-- The three phases of R92 in their order: the bus operation on S, the tick on what it leaves, the button on
what that leaves. -/
def runOps (c : CycleOps) (s : State) : Result :=
  andThen (exec c.bus s) fun s => andThen (exec c.tick s) (exec c.btn)

/-- One cycle from the state S = `s` with the input ports at `p`: a reset cycle when `rst_n` = 0 (R260, the lanes
are ignored, R261), else `rdata` <- 0x00 and the three phases (R92). -/
def runCycle (p : Pins) (s : State) : Result :=
  if p.rstN then runOps p.ops (s.drive 0x00#8) else .next s.resetBlock

/-- The cycle that presents one lane's word with the other lanes at the defaults of R94: no bus transaction, no
tick, and the button at the level of the previous cycle. -/
def laneCycle (prev : Bool) : LaneWord → Pins
  | .bus b => ⟨true, b, 0x000#9, BitVec.ofBool prev⟩
  | .tick t => ⟨true, 0x0000#14, t, BitVec.ofBool prev⟩
  | .btn k => ⟨true, 0x0000#14, 0x000#9, k⟩

/-- The next cycle presents the word `w` of `nbits` bits on its lane, in place of what was placed for that
cycle. A number that is no lane's word places nothing. -/
def State.placeWord (s : State) (nbits w : Nat) : State :=
  match laneWordOf nbits w with
  | some lw => { s with pending := laneCycle s.btnPrev lw :: s.pending.tail }
  | none => s

end Sys2Proof.Machine
end

