-- ==== Sys2Proof/Machine/Step.lean ====
section
/-! DEFINITION. One step of the machine is one cycle of the block (spec/00_scope.md R11, R93). -/

namespace Sys2Proof.Machine

/-- One rising edge of the clock: the input ports of this cycle are consumed and the cycle is run (R92, R260). -/
def step (s : State) : Host.Outcome State Fault Refusal := runCycle s.pins s.advance

/-- The next cycle presents exactly the lane word `w` of `nbits` bits, the other lanes idle (log entry 5). -/
def State.withFetchWord (s : State) (nbits w : Nat) : State := s.placeWord nbits w

end Sys2Proof.Machine
end

