-- ==== Sys2Proof/Machine/Script.lean ====
section
/-! DEFINITION. Cycle scripts and their pseudo-instructions (spec/30_encoding.md R94, R95), as abstract syntax:
a cycle label and a comment carry no meaning (log entry 14). -/

namespace Sys2Proof.Machine

/-- A register name of a script, or a raw offset (R94). -/
inductive ScriptReg where
  | status
  | ctrl
  | count
  | stir
  | block (i : BitVec 3)
  | raw (off : Offset)
deriving DecidableEq, Repr

/-- The offset a register name stands for (R59, R94). -/
def ScriptReg.offset : ScriptReg → Offset
  | .status => 0x0#4
  | .ctrl => 0x1#4
  | .count => 0x2#4
  | .stir => 0x3#4
  | .block i => 0b1#1 ++ i
  | .raw off => off

/-- The pseudo-instructions of the bus lane (R95). -/
inductive Pseudo where
  | begin
  | clrrdy
  | start
  | arm
  | disarm
  | clrreq
  | rearm
deriving DecidableEq, Repr

/-- The CTRL data a pseudo-instruction writes (R95). -/
def Pseudo.data : Pseudo → Byte
  | .begin => 0x01#8
  | .clrrdy => 0x02#8
  | .start => 0x03#8
  | .arm => 0x04#8
  | .disarm => 0x08#8
  | .clrreq => 0x10#8
  | .rearm => 0x14#8

/-- The bus word a pseudo-instruction expands to, `wr CTRL, <data>` (R95). -/
def Pseudo.word (p : Pseudo) : BusWord := busWord 1#1 1#1 ScriptReg.ctrl.offset p.data

/-- A bus operation of a script line (R94, R95). -/
inductive ScriptBus where
  | nop
  | rd (reg : ScriptReg)
  | wr (reg : ScriptReg) (imm : Byte)
  | pseudo (p : Pseudo)
deriving DecidableEq, Repr

/-- The bus word of a script's bus operation: `rd` is 0x2000 | off << 8, `wr` is 0x3000 | off << 8 | imm8 (R94);
a pseudo-instruction expands to a write of CTRL (R95). -/
def ScriptBus.word : ScriptBus → BusWord
  | .nop => 0x0000#14
  | .rd reg => busWord 1#1 0#1 reg.offset 0x00#8
  | .wr reg imm => busWord 1#1 1#1 reg.offset imm
  | .pseudo p => p.word

/-- `press` (R95). -/
def pressLevel : BtnWord := 0#1

/-- `release` (R95). -/
def releaseLevel : BtnWord := 1#1

/-- One line, one cycle; a field left empty takes its default (R94). -/
structure ScriptLine where
  bus : Option ScriptBus := none
  tick : Option Byte := none
  btn : Option BtnWord := none
deriving DecidableEq, Repr

/-- The directive `.ticks b0, …, bk`: one line `nop | tick bi | -` for each byte (R94). -/
def ticksLines (bs : List Byte) : List ScriptLine := bs.map fun b => { tick := some b }

/-- The directive `.rep n line` (R94). -/
def repLines (n : Nat) (l : ScriptLine) : List ScriptLine := List.replicate n l

/-- The pin values of a line whose previous line had the button at `prev` (R94); a script has no reset cycle. -/
def ScriptLine.pins (prev : BtnWord) (l : ScriptLine) : Pins where
  rstN := true
  bus := (l.bus.getD .nop).word
  tick := match l.tick with
    | some b => 0b1#1 ++ b
    | none => 0x000#9
  btn := l.btn.getD prev

/-- The pin values of the lines after a line with the button at `prev`. -/
def linesFrom (prev : BtnWord) : List ScriptLine → List Pins
  | [] => []
  | l :: ls => l.pins prev :: linesFrom (l.pins prev).btn ls

/-- A script's cycles; before the first line the button is at 1 (R94). -/
def assemble (ls : List ScriptLine) : List Pins := linesFrom releaseLevel ls

end Sys2Proof.Machine
end

