-- ==== Sys2Proof/Safety.lean ====
section
/-! DEFINITION. The terms claims use: runs under given inputs, what a cycle's inputs ask for, the invariants of
the block, and the NAMED PREMISES about its environment (spec/42_host_interface.md R190 to R194). The host's duties
stand in Machine/Host.lean. -/

namespace Sys2Proof.Machine

/-! ## What a cycle's inputs ask for -/

/-- The CTRL data this cycle writes, where it writes CTRL (R187). A reset cycle writes nothing (R261). -/
def Pins.ctrlData (p : Pins) : Option Byte :=
  if p.rstN then
    match decodeBus p.bus with
    | .wrCtrl d => some d
    | _ => none
  else none

/-- BEGIN is written (R114). -/
def Pins.begins (p : Pins) : Bool := p.ctrlData.any ctrlBegin

/-- CLR_READY is written (R115). -/
def Pins.clearsReady (p : Pins) : Bool := p.ctrlData.any ctrlClrReady

/-- ARM is written, without the DISARM that would take precedence (R153). -/
def Pins.arms (p : Pins) : Bool := p.ctrlData.any fun d => ctrlArm d && !ctrlDisarm d

/-- DISARM is written (R154). -/
def Pins.disarms (p : Pins) : Bool := p.ctrlData.any ctrlDisarm

/-- CLR_REQ is written (R155). -/
def Pins.clearsReq (p : Pins) : Bool := p.ctrlData.any ctrlClrReq

/-- The sample of a tick presented in this cycle, honoured or not (R82, R112). -/
def Pins.sample (p : Pins) : Option Byte :=
  if p.rstN && tickBit p.tick then some (tickSample p.tick) else none

/-- The samples presented in a list of cycles, in order. -/
def samples (ps : List Pins) : List Byte := ps.filterMap Pins.sample

/-! ## Runs -/

/-- The cycles of `ps`, one after another, from `s`. -/
def runScript : List Pins → State → Result
  | [], s => .next s
  | p :: ps, s => andThen (step (s.present p)) (runScript ps)

/-- The first `n` cycles from `s` under the environment `e`, which may be any function of the cycle number: an
unconstrained draw of every input port (spec/93_implementation_defined.md, treatment "any value"). -/
def runUnder (e : Nat → Pins) (s : State) : Nat → Result
  | 0 => .next s
  | n + 1 => andThen (runUnder e s n) fun t => step (t.present (e n))

/-- How many of the cycles of `ps` move BTN_REQ from 0 to 1 (R157). -/
def reqRises : List Pins → State → Nat
  | [], _ => 0
  | p :: ps, s =>
    match step (s.present p) with
    | .next t => (if !s.btnReq && t.btnReq then 1 else 0) + reqRises ps t
    | .fault _ => 0
    | .refused _ => 0

/-- The eight elements the spec calls state are the same (spec/10_state.md section 1); the model's own fields may
differ. -/
def sameBlock (s t : State) : Prop :=
  t.stir = s.stir ∧ t.count = s.count ∧ t.block = s.block ∧ t.ready = s.ready ∧
    t.collecting = s.collecting ∧ t.btnArmed = s.btnArmed ∧ t.btnReq = s.btnReq ∧ t.btnPrev = s.btnPrev

/-! ## The stirrer over many samples -/

/-- STIR after the samples `xs` from STIR = `s` (R112). -/
def stirAll (s : Byte) (xs : List Byte) : Byte := xs.foldl stir s

/-- The samples of window k, the k-th eight (R120). -/
def window (k : Nat) (xs : List Byte) : List Byte := (xs.drop (8 * k)).take 8

/-- F of R119: x7 ^ rotl8(x6) ^ rotl8²(x5) ^ … ^ rotl8⁷(x0), each sample rotated once for each sample after it. -/
def windowMix : List Byte → Byte
  | [] => 0x00#8
  | x :: xs => rotl8^[xs.length] x ^^^ windowMix xs

/-! ## The collector's and the arbiter's states -/

/-- The collector's state (R28), read from (COLLECTING, READY). -/
inductive CollectorState where
  | idle
  | collecting
  | ready
  | collectingStaleReady
deriving DecidableEq, Repr

/-- The table of R28. -/
def State.collectorState (s : State) : CollectorState :=
  match s.collecting, s.ready with
  | false, false => .idle
  | true, false => .collecting
  | false, true => .ready
  | true, true => .collectingStaleReady

/-- The arbiter's state (R156), read from (BTN_ARMED, BTN_REQ). -/
inductive ArbiterState where
  | disarmed
  | armed
  | fired
  | armedStaleRequest
deriving DecidableEq, Repr

/-- The states of R156. -/
def State.arbiterState (s : State) : ArbiterState :=
  match s.btnArmed, s.btnReq with
  | false, false => .disarmed
  | true, false => .armed
  | false, true => .fired
  | true, true => .armedStaleRequest

/-! ## Invariants -/

/-- COLLECTING = 0 implies COUNT = 0 (R29). -/
def State.idleCountZero (s : State) : Prop := s.collecting = false → s.count = 0#6

/-- At every byte boundary STIR is the byte last written: BLOCK[COUNT/8 - 1], and BLOCK[7] where COUNT is 0 (a
consequence of R112 and R260; R120 has "leaves STIR = BLOCK[7]" for the end of a collection). -/
def State.stirAtBoundary (s : State) : Prop :=
  s.count.toNat % 8 = 0 → s.stir = s.blockByte (BitVec.ofNat 3 (s.count.toNat / 8 + 7))

/-- BEGIN has not been written over an unconsumed block: not (COLLECTING, READY) = (1, 1), the stale READY of R28
and R267. It is no invariant of the block; a host that keeps HD1 keeps it. -/
def State.noStaleReady (s : State) : Prop := ¬(s.collecting = true ∧ s.ready = true)

/-! ## Environment duties (R191 to R194) -/

/-- ED1, the tick pulse duty: over these cycles the tick source presents each of its `firings` as exactly one
cycle with `tick` = 1 (R191). ED2 and ED3 hold of every `Pins` value: it has one sample and one
synchronised button level (R192, R193, R272). -/
def tickPulseDuty (firings : Nat) (ps : List Pins) : Prop := (samples ps).length = firings

/-- ED4, TICK_FAIR: if `tick_en` = 1 from some cycle on, a TICK cycle eventually follows (R194). -/
def tickFair (e : Nat → Pins) (s : State) : Prop :=
  ∀ n, (∀ m, n ≤ m → ∀ t, runUnder e s m = .next t → t.tickEn = true) →
    ∃ m, n ≤ m ∧ (e m).sample.isSome = true

end Sys2Proof.Machine
end

