-- ==== Sys2Proof/Machine/Host.lean ====
section
/-! DEFINITION. The host's duties HD1 to HD6 toward the block (spec/42_host_interface.md section 4, R195 to R200), the
NAMED PREMISES of claims about hosts, and no rules of the block (D24). A duty on what a cycle may do is a condition on one
cycle (`HostDuties`); a duty to do something, for which the spec gives no bound in time (R197, R273), is an eventuality
of a run without end (`HostProgress`). Log entry 11. -/

namespace Sys2Proof.Machine

/-! ## The host -/

/-- The Main Controller's states (spec/42_host_interface.md section 4). -/
inductive HostPhase where
  | displaying
  | collecting
  | sleeping
deriving DecidableEq, Repr

/-- What the duties need of the host: its own state, no part of the block (R5 b). -/
structure HostView where
  phase : HostPhase
  /-- Raster passes completed in the current Displaying episode (R196, R199). -/
  passes : Nat
  /-- `rearm` was written in this episode, after its debounce window (R196). -/
  rearmed : Bool
  /-- A STATUS read after that write returned BTN_REQ = 1: the host acts on a request (R195, R196). -/
  request : Bool
  /-- `clrreq`, the first write of HD1's two-write start, was written while acting on the request (R195). -/
  reqCleared : Bool
  /-- In Collecting, a STATUS read returned READY = 1 (R197). -/
  readySeen : Bool
  /-- A STATUS read returned COLLECTING = 0, and BEGIN was not written since (R198). -/
  idleSeen : Bool
deriving DecidableEq, Repr

/-- The top of a Displaying episode; the host starts there (R263). -/
def HostView.top : HostView := ⟨.displaying, 0, false, false, false, false, false⟩

/-- One cycle as the host and its surroundings choose it: the bus word; whether a raster pass ends in this cycle;
whether the host halts after it; the tick and button lanes. -/
structure HostMove where
  bus : BusWord
  passDone : Bool
  halts : Bool
  tick : TickWord
  btn : BtnWord
deriving DecidableEq, Repr

/-- The input ports of the move's cycle; no reset cycle. -/
def HostMove.pins (m : HostMove) : Pins := ⟨true, m.bus, m.tick, m.btn⟩

/-- The move is `wr CTRL, d`. -/
def HostMove.writes (m : HostMove) (d : Byte) : Prop := m.pins.ctrlData = some d

/-- The move reads STATUS. -/
def HostMove.readsStatus (m : HostMove) : Bool := decide (decodeBus m.bus = .rdStatus)

/-- The one-write start of HD1: CLR_REQ, CLR_READY and BEGIN (R195). -/
def startRequestData : Byte := 0x13#8

/-! ## The duties of one cycle -/

/-- HD6 (R200): `btn_irq` = 1 wakes a sleeping host, which starts a new Displaying episode at its top, with no
collection. What it read of the block before it slept still stands (no BEGIN was written). -/
def HostView.wake (h : HostView) (s : State) : HostView :=
  if h.phase = .sleeping ∧ s.btnIrq = true then { HostView.top with idleSeen := h.idleSeen } else h

/-- HD1 (R195): BEGIN is written only on acting on a request, only while COLLECTING = 0, and by `wr CTRL, 0x13` or by
`start` after a `clrreq`; no other data byte starts a collection. -/
def dutyStart (h : HostView) (s : State) (m : HostMove) : Prop :=
  m.pins.begins = true → h.phase = .displaying ∧ h.request = true ∧ s.collecting = false ∧
    (m.writes startRequestData ∨ (h.reqCleared = true ∧ m.writes Pseudo.start.data))

/-- HD2 (R196): ARM is written only by `rearm`, in a Displaying episode whose first NEXT_ALLOW_CYCLE raster passes have
elapsed, and not once the host acts on a request (its clear discards a request). The arbiter is disarmed at the top of
every episode (`HostRelies.unarmed`), so this keeps it disarmed for the whole window. -/
def dutyDebounce (c : HostTunables) (h : HostView) (m : HostMove) : Prop :=
  m.pins.arms = true →
    h.phase = .displaying ∧ c.nextAllowCycle ≤ h.passes ∧ h.request = false ∧ m.writes Pseudo.rearm.data

/-- HD2 (R196, and C3 of 90_conflicts.md: "at the end of the debounce window"): after the NEXT_ALLOW_CYCLE passes no
further raster pass of the episode ends before `rearm` is written. -/
def dutyRearm (c : HostTunables) (h : HostView) (m : HostMove) : Prop :=
  m.passDone = true → h.phase = .displaying →
    h.passes < c.nextAllowCycle ∨ h.rearmed = true ∨ m.writes Pseudo.rearm.data

/-- HD3 (R197): in Collecting, READY is cleared only by `clrrdy` after a STATUS read returned READY = 1. Outside
Collecting only HD1's start clears it. -/
def dutyConsume (h : HostView) (m : HostMove) : Prop :=
  m.pins.clearsReady = true →
    m.pins.begins = true ∨ (h.phase = .collecting ∧ h.readySeen = true ∧ m.writes Pseudo.clrrdy.data)

/-- HD4 (R198): BLOCK is read only after a STATUS read that returned COLLECTING = 0 and no later BEGIN. -/
def dutyReadBlock (h : HostView) (m : HostMove) : Prop :=
  ∀ idx, decodeBus m.bus = .rdBlock idx → h.idleSeen = true

/-- HD5 (R199): in a Displaying episode in which BTN_REQ was not seen, no raster pass follows the SHOW_CYCLES passes. -/
def dutyShow (c : HostTunables) (h : HostView) (m : HostMove) : Prop :=
  m.passDone = true → h.phase = .displaying → h.passes < c.showCycles ∨ h.request = true

/-- HD5 (R199): the host halts only when SHOW_CYCLES passes have elapsed and BTN_REQ was not seen, and makes sure that
BTN_ARMED = 1, by `rearm` if needed. -/
def dutySleep (c : HostTunables) (h : HostView) (s : State) (m : HostMove) : Prop :=
  m.halts = true → h.phase = .displaying ∧ c.showCycles ≤ h.passes ∧ h.request = false ∧
    (m.writes Pseudo.rearm.data ∨ (s.btnArmed = true ∧ decodeBus m.bus = .busIdle))

/-- A halted host presents no transaction (R199). -/
def dutyHalted (h : HostView) (m : HostMove) : Prop :=
  h.phase = .sleeping → decodeBus m.bus = .busIdle

/-- The host's duties in one cycle from the block state `s`. -/
structure HostDuties (c : HostTunables) (h : HostView) (s : State) (m : HostMove) : Prop where
  start : dutyStart h s m
  debounce : dutyDebounce c h m
  rearm : dutyRearm c h m
  consume : dutyConsume h m
  readBlock : dutyReadBlock h m
  shows : dutyShow c h m
  sleep : dutySleep c h s m
  halted : dutyHalted h m

/-! ## Host and block together -/

/-- What the host is in after the move's cycle from the block state `s` (section 4 of 42_host_interface.md).
A STATUS read returns S of its cycle (R61). -/
def HostView.after (h : HostView) (s : State) (m : HostMove) : HostView :=
  if m.pins.begins then { HostView.top with phase := .collecting }
  else if decide (h.phase = .collecting) && m.pins.clearsReady then
    { HostView.top with idleSeen := h.idleSeen }
  else
    { phase := if m.halts then .sleeping else h.phase
      passes := if m.passDone && decide (h.phase = .displaying) then h.passes + 1 else h.passes
      rearmed := h.rearmed || m.pins.arms
      request := h.request || (m.readsStatus && h.rearmed && s.btnReq)
      reqCleared := h.reqCleared || (h.request && decide (m.pins.ctrlData = some Pseudo.clrreq.data))
      readySeen := h.readySeen || (m.readsStatus && s.ready)
      idleSeen := h.idleSeen || (m.readsStatus && !s.collecting) }

/-- Host and block, run together over the moves: the host's view and the block's state after them, when every
cycle keeps the duties. -/
inductive HostRun (c : HostTunables) : HostView → State → List HostMove → HostView → State → Prop where
  | done (h : HostView) (s : State) : HostRun c h s [] h s
  | cycle {h h' : HostView} {s t s' : State} {m : HostMove} {ms : List HostMove}
      (duties : HostDuties c (h.wake s) s m) (stepped : step (s.present m.pins) = .next t)
      (rest : HostRun c ((h.wake s).after s m) t ms h' s') : HostRun c h s (m :: ms) h' s'

/-- Host and block, run together without end: in cycle n the host's view is `hs n`, the block's state `ss n` and the
move `ms n`, and every cycle keeps the duties. -/
structure HostPlay (c : HostTunables) (hs : Nat → HostView) (ss : Nat → State) (ms : Nat → HostMove) : Prop where
  duties (n : Nat) : HostDuties c ((hs n).wake (ss n)) (ss n) (ms n)
  stepped (n : Nat) : step ((ss n).present (ms n).pins) = .next (ss (n + 1))
  viewed (n : Nat) : hs (n + 1) = ((hs n).wake (ss n)).after (ss n) (ms n)

/-- The host's duties to act. Each comes due in some cycle n and is met in that cycle or a later one; how much later is
the host's own choice (R197), and no rule gives a bound (R273). -/
structure HostProgress (c : HostTunables) (hs : Nat → HostView) (ss : Nat → State) (ms : Nat → HostMove) : Prop where
  /-- HD1 (R195): a host that acts on a request starts a collection. -/
  starts (n : Nat) : ((hs n).wake (ss n)).request = true → ∃ m, n ≤ m ∧ (ms m).pins.begins = true
  /-- HD2 (R196): after the first NEXT_ALLOW_CYCLE passes of an episode the host writes `rearm`. -/
  rearms (n : Nat) : ((hs n).wake (ss n)).phase = .displaying →
    c.nextAllowCycle ≤ ((hs n).wake (ss n)).passes → ((hs n).wake (ss n)).rearmed = false →
    ∃ m, n ≤ m ∧ (ms m).writes Pseudo.rearm.data
  /-- HD3 (R197): while in Collecting the host reads STATUS until READY = 1. -/
  polls (n : Nat) : ((hs n).wake (ss n)).phase = .collecting → ((hs n).wake (ss n)).readySeen = false →
    ∃ m, n ≤ m ∧ (ms m).readsStatus = true
  /-- HD3 (R197): it then writes `clrrdy`, which returns it to Displaying. -/
  consumes (n : Nat) : ((hs n).wake (ss n)).phase = .collecting → ((hs n).wake (ss n)).readySeen = true →
    ∃ m, n ≤ m ∧ (ms m).writes Pseudo.clrrdy.data
  /-- HD5 (R199): when SHOW_CYCLES passes have elapsed and BTN_REQ was not seen, the host halts, with BTN_ARMED = 1
  (`dutySleep`), unless it sees BTN_REQ before it does. -/
  sleeps (n : Nat) : ((hs n).wake (ss n)).phase = .displaying →
    c.showCycles ≤ ((hs n).wake (ss n)).passes → ((hs n).wake (ss n)).request = false →
    ∃ m, n ≤ m ∧ ((ms m).halts = true ∨ ((hs (m + 1)).request = true))

/-- What a host that keeps its duties can rely on, and the block with it. -/
structure HostRelies (c : HostTunables) (h : HostView) (s : State) : Prop where
  /-- After a STATUS read that showed COLLECTING = 0, and no BEGIN since, no collection runs (R198). -/
  idle : h.idleSeen = true → s.collecting = false
  /-- A collection runs only in Collecting (R195, R197). -/
  displayingIdle : h.phase ≠ .collecting → s.collecting = false
  /-- In Collecting a collection runs, or its block is ready (R117, R197). -/
  collectingBusy : h.phase = .collecting → s.collecting = true ∨ s.ready = true
  /-- READY seen in Collecting stays until `clrrdy` (R197). -/
  readyStays : h.phase = .collecting → h.readySeen = true → s.ready = true
  /-- READY is not stale (R267). -/
  fresh : s.noStaleReady
  /-- Until `rearm` is written in an episode, and through Collecting, the arbiter is disarmed (R196). -/
  unarmed : h.phase ≠ .sleeping → h.rearmed = false → s.btnArmed = false
  /-- `rearm` is written only after the debounce window (R196). -/
  window : h.rearmed = true → c.nextAllowCycle ≤ h.passes
  /-- `rearm` belongs to the Displaying episode (R196). -/
  collectingUnarmed : h.phase = .collecting → h.rearmed = false
  /-- While the host acts on a request the arbiter stays disarmed (R151, R196). -/
  acting : h.request = true → h.phase = .displaying ∧ h.rearmed = true ∧ s.btnArmed = false
  /-- After `clrreq` the request is gone (R155, R195). -/
  cleared : h.reqCleared = true → h.request = true ∧ s.btnReq = false
  /-- The arbiter is never armed over a request (R156). -/
  oneShot : ¬(s.btnArmed = true ∧ s.btnReq = true)
  /-- A sleeping host can be woken or is being woken (R199, R200, R234). -/
  wakeable : h.phase = .sleeping → s.btnArmed = true ∨ s.btnIrq = true

end Sys2Proof.Machine
end

