-- ==== Sys2Proof/Certificates/Slice0/Obligations.lean ====
section
/-! DEFINITION. The statements for the provers. Each says in its docstring which rules of spec/ it formalises; a
statement over all states also covers states that no run reaches. -/

open Sys2Proof Sys2Proof.Machine

/-! ## Encoding -/

/-- R85, R86, R87: decoding an encoded operation gives it back, for every operation and operand. -/
def Obligations.DecodeInvertsEncode : Prop := ∀ i : Instr, decode (encode i) = i

/-- R85: the rows of the bus table decode as listed, for all 2^14 words: exactly one row matches a word, and it is
the row of the operation the decoder reads; its idx field is B[10:8] and its data field B[7:0]. -/
def Obligations.BusTableIsTotalAndDisjoint : Prop :=
  (∀ w : BusWord, ∀ r ∈ busRows, w &&& r.mask = r.pattern ↔ (decodeBus w).op = r.op) ∧
  (∀ w : BusWord, ∃ r ∈ busRows, (w &&& r.mask = r.pattern) ∧
    ∀ q ∈ busRows, w &&& q.mask = q.pattern → q = r) ∧
  (∀ w : BusWord, ∀ idx, decodeBus w = .rdBlock idx → idx = w.extractLsb' 8 3) ∧
  (∀ w : BusWord, ∀ d, decodeBus w = .wrCtrl d ∨ decodeBus w = .wrStatus d ∨ (∃ off, decodeBus w = .wrRo off d) ∨
    (∃ off, decodeBus w = .wrRsvd off d) ∨ (∃ idx, decodeBus w = .wrBlock idx d) → d = w.extractLsb' 0 8)

/-- R86, R87: the tick and button tables decode as listed; a TICK's sample is T[7:0]. -/
def Obligations.TickAndButtonTablesDecode : Prop :=
  (∀ w : TickWord, ∀ r ∈ tickRows, w &&& r.mask = r.pattern ↔ (decodeTick w).op = r.op) ∧
  (∀ w : TickWord, ∀ x, decodeTick w = .tick x → x = w.extractLsb' 0 8) ∧
  (∀ w : BtnWord, ∀ r ∈ btnRows, w &&& r.mask = r.pattern ↔ (decodeBtn w).op = r.op)

/-- R88: the ignored bits. Encoding what was decoded clears the ignored bits and no other; a write's data
byte is kept as a field (log entry 17, the model's choice). -/
def Obligations.EncodeClearsOnlyIgnoredBits : Prop :=
  (∀ w : BusWord, encode (decodeBus w) = .bus (w &&& busCareMask (decodeBus w).op)) ∧
  (∀ w : TickWord, encode (decodeTick w) = .tick (if w.getLsbD 8 then w else 0#9)) ∧
  (∀ w : BtnWord, encode (decodeBtn w) = .btn w)

/-- R88: an ignored bit does not change an operation's effect, whatever the state. -/
def Obligations.IgnoredBitsChangeNoEffect : Prop :=
  (∀ v w : BusWord, v.getLsbD 13 = false → w.getLsbD 13 = false →
    ∀ s, exec (decodeBus v) s = exec (decodeBus w) s) ∧
  (∀ v w : BusWord, v.extractLsb' 12 2 = 0b10#2 → v.extractLsb' 8 6 = w.extractLsb' 8 6 →
    ∀ s, exec (decodeBus v) s = exec (decodeBus w) s) ∧
  (∀ v w : BusWord, v.extractLsb' 12 2 = 0b11#2 → v.extractLsb' 8 4 ≠ 0x1#4 →
    v.extractLsb' 8 6 = w.extractLsb' 8 6 →
    ∀ s, exec (decodeBus v) s = exec (decodeBus w) s) ∧
  (∀ v w : TickWord, v.getLsbD 8 = false → w.getLsbD 8 = false →
    ∀ s, exec (decodeTick v) s = exec (decodeTick w) s)

/-- Words written out from the patterns of R85 to R87 decode to the operations they stand for. -/
def Obligations.SampleWordsDecode : Prop :=
  decodeBus 0b01111111111111#14 = .busIdle ∧ decodeBus 0b10001011111111#14 = .rdCount ∧
  decodeBus 0b10111000000000#14 = .rdBlock 6#3 ∧ decodeBus 0b11000100010011#14 = .wrCtrl 0x13#8 ∧
  decodeBus 0b11110101010101#14 = .wrBlock 5#3 0x55#8 ∧ decodeTick 0b101011010#9 = .tick 0x5A#8 ∧
  decodeTick 0b001011010#9 = .noTick ∧ decodeBtn 0b0#1 = .btnLow ∧ decodeBtn 0b1#1 = .btnHigh

/-- R94, R95: a script's `rd`, `wr` and `tick` encode as stated, and the pseudo-instructions expand to the listed
words. That a script is abstract syntax is the model's choice (log entry 14). -/
def Obligations.ScriptWordsMatchEncodings : Prop :=
  (∀ reg, (ScriptBus.rd reg).word = 0x2000#14 ||| (reg.offset.setWidth 14 <<< 8)) ∧
  (∀ reg imm, (ScriptBus.wr reg imm).word =
    0x3000#14 ||| (reg.offset.setWidth 14 <<< 8) ||| imm.setWidth 14) ∧
  (∀ prev x, (ScriptLine.pins prev { tick := some x }) = ⟨true, 0x0000#14, 0x100#9 ||| x.setWidth 9, prev⟩) ∧
  (Pseudo.word .begin = 0x3101#14 ∧ Pseudo.word .clrrdy = 0x3102#14 ∧ Pseudo.word .start = 0x3103#14 ∧
    Pseudo.word .arm = 0x3104#14 ∧ Pseudo.word .disarm = 0x3108#14 ∧ Pseudo.word .clrreq = 0x3110#14 ∧
    Pseudo.word .rearm = 0x3114#14) ∧
  pressLevel = 0#1 ∧ releaseLevel = 1#1

/-! ## The bus operations -/

/-- R181: encoding, value, frame; a read in the cycle of the 64th tick returns COLLECTING = 1, READY = 0 and one in
the next cycle READY = 1; all 16 values of bits 3:0 are reachable (R34). -/
def Obligations.RdStatusReturnsFlags : Prop :=
  (∀ w : BusWord, w.extractLsb' 8 6 = 0b100000#6 → decodeBus w = .rdStatus) ∧
  (∀ s, exec .rdStatus s = .next { s with
    rdata := 0b0000#4 ++ BitVec.ofBool s.btnReq ++ BitVec.ofBool s.btnArmed ++ BitVec.ofBool s.ready
      ++ BitVec.ofBool s.collecting }) ∧
  (∀ (s : State) (x : Byte) (k l : BtnWord), s.collecting = true → s.ready = false → s.count = 63#6 →
    ∃ t u, step (s.present ⟨true, 0x2000#14, 0b1#1 ++ x, k⟩) = .next t ∧
      t.rdata.getLsbD 0 = true ∧ t.rdata.getLsbD 1 = false ∧
      step (t.present ⟨true, 0x2000#14, 0x000#9, l⟩) = .next u ∧ u.rdata.getLsbD 1 = true) ∧
  (∀ v : BitVec 4, ∃ ps t, runScript ps State.reset = .next t ∧ t.statusByte = 0b0000#4 ++ v)

/-- R182: encoding, value, frame, whatever CTRL was last written with. -/
def Obligations.RdCtrlReturnsZero : Prop :=
  (∀ w : BusWord, w.extractLsb' 8 6 = 0b100001#6 → decodeBus w = .rdCtrl) ∧
  (∀ s, exec .rdCtrl s = .next { s with rdata := 0x00#8 })

/-- R183: encoding, value, frame; never 64 or more, and 0 while idle wherever R29's invariant holds. -/
def Obligations.RdCountReturnsCount : Prop :=
  (∀ w : BusWord, w.extractLsb' 8 6 = 0b100010#6 → decodeBus w = .rdCount) ∧
  (∀ s, ∃ t, exec .rdCount s = .next t ∧ t = { s with rdata := t.rdata } ∧
    t.rdata.toNat = s.count.toNat ∧ t.rdata.toNat < 64 ∧
    (s.idleCountZero → s.collecting = false → t.rdata = 0x00#8))

/-- R184: encoding, value, frame; after the 64th tick of a collection it returns BLOCK[7]. -/
def Obligations.RdStirReturnsStir : Prop :=
  (∀ w : BusWord, w.extractLsb' 8 6 = 0b100011#6 → decodeBus w = .rdStir) ∧
  (∀ s, exec .rdStir s = .next { s with rdata := s.stir }) ∧
  (∀ (s : State) (x : Byte), s.collecting = true → s.count = 63#6 →
    ∃ t u, exec (.tick x) s = .next t ∧ exec .rdStir t = .next u ∧ t.collecting = false ∧
      u.rdata = t.block.get 7)

/-- R185: encoding, value, frame. -/
def Obligations.RdRsvdReturnsZero : Prop :=
  (∀ w : BusWord, w.extractLsb' 10 4 = 0b1001#4 → decodeBus w = .rdRsvd (w.extractLsb' 8 2)) ∧
  (∀ off s, exec (.rdRsvd off) s = .next { s with rdata := 0x00#8 })

/-- R186: encoding, value, frame, in every state (while a collection runs too); 0x00 before any collection, whatever
else has happened since reset. -/
def Obligations.RdBlockReturnsByte : Prop :=
  (∀ w : BusWord, w.extractLsb' 11 3 = 0b101#3 → decodeBus w = .rdBlock (w.extractLsb' 8 3)) ∧
  (∀ idx s, exec (.rdBlock idx) s = .next { s with rdata := s.block.get ⟨idx.toNat, idx.isLt⟩ }) ∧
  (∀ idx ps, (∀ p ∈ ps, p.begins = false) → ∃ t, runScript ps State.reset = .next t ∧
    exec (.rdBlock idx) t = .next { t with rdata := 0x00#8 })

/-- R187: encoding, every command bit, the frame, and what a tick or edge of the same cycle sees. -/
def Obligations.WrCtrlPerformsCommands : Prop :=
  (∀ w : BusWord, w.extractLsb' 8 6 = 0b110001#6 → decodeBus w = .wrCtrl (w.extractLsb' 0 8)) ∧
  (∀ d s, exec (.wrCtrl d) s = .next { s with
    ready := if d.getLsbD 1 then false else s.ready
    collecting := if d.getLsbD 0 then true else s.collecting
    btnReq := if d.getLsbD 4 then false else s.btnReq
    btnArmed := if d.getLsbD 3 then false else if d.getLsbD 2 then true else s.btnArmed
    rdata := 0x00#8 }) ∧
  (∀ (s : State) d t k, ∃ u, exec (.wrCtrl d) { s with cycle := s.cycle + 1 } = .next u ∧
    step (s.present ⟨true, 0b110001#6 ++ d, t, k⟩) = andThen (exec (decodeTick t) u) (exec (decodeBtn k)))

/-- R114, R115, R153, R154, R155, R95: each command written alone changes its own flag and nothing else. -/
def Obligations.CommandsAloneChangeOneFlag : Prop :=
  ∀ s, exec (decodeBus 0x3101#14) s = .next { s with collecting := true, rdata := 0x00#8 } ∧
    exec (decodeBus 0x3102#14) s = .next { s with ready := false, rdata := 0x00#8 } ∧
    exec (decodeBus 0x3104#14) s = .next { s with btnArmed := true, rdata := 0x00#8 } ∧
    exec (decodeBus 0x3108#14) s = .next { s with btnArmed := false, rdata := 0x00#8 } ∧
    exec (decodeBus 0x3110#14) s = .next { s with btnReq := false, rdata := 0x00#8 }

/-- R188: the encodings of the four ignored writes and their effect, which is none. -/
def Obligations.OtherWritesAreIgnored : Prop :=
  (∀ w : BusWord, w.extractLsb' 8 6 = 0b110000#6 → decodeBus w = .wrStatus (w.extractLsb' 0 8)) ∧
  (∀ w : BusWord, w.extractLsb' 9 5 = 0b11001#5 →
    decodeBus w = .wrRo (w.extractLsb' 8 1) (w.extractLsb' 0 8)) ∧
  (∀ w : BusWord, w.extractLsb' 10 4 = 0b1101#4 →
    decodeBus w = .wrRsvd (w.extractLsb' 8 2) (w.extractLsb' 0 8)) ∧
  (∀ w : BusWord, w.extractLsb' 11 3 = 0b111#3 →
    decodeBus w = .wrBlock (w.extractLsb' 8 3) (w.extractLsb' 0 8)) ∧
  (∀ d s, exec (.wrStatus d) s = .next { s with rdata := 0x00#8 }) ∧
  (∀ off d s, exec (.wrRo off d) s = .next { s with rdata := 0x00#8 }) ∧
  (∀ off d s, exec (.wrRsvd off d) s = .next { s with rdata := 0x00#8 }) ∧
  (∀ idx d s, exec (.wrBlock idx d) s = .next { s with rdata := 0x00#8 })

/-- R189: encoding and effect. -/
def Obligations.BusIdleHasNoEffect : Prop :=
  (∀ w : BusWord, w.getLsbD 13 = false → decodeBus w = .busIdle) ∧
  (∀ s, exec .busIdle s = .next { s with rdata := 0x00#8 })

/-- What behaves exactly as BUS_IDLE, and the reads, which also return their data: R90, which the spec marks
[derived] from R88, R89 and R187. -/
def Obligations.NoEffectOperationsAreIdle : Prop :=
  (∀ d : Byte, d.extractLsb' 0 5 = 0#5 → ∀ s, exec (.wrCtrl d) s = exec .busIdle s) ∧
  (∀ w : BusWord, w.extractLsb' 12 2 = 0b11#2 → w.extractLsb' 8 4 ≠ 0x1#4 →
    ∀ s, exec (decodeBus w) s = exec .busIdle s) ∧
  (∀ w : BusWord, w.extractLsb' 12 2 = 0b10#2 → ∀ s,
    exec (decodeBus w) s = andThen (exec .busIdle s) fun t =>
      .next { t with rdata := s.regRead (w.extractLsb' 8 4) })

/-- R57: a read changes no state, and read again it returns the same byte. -/
def Obligations.ReadsHaveNoSideEffect : Prop :=
  ∀ w : BusWord, w.extractLsb' 12 2 = 0b10#2 → ∀ s, ∃ t,
    exec (decodeBus w) s = .next t ∧ t = { s with rdata := t.rdata } ∧ exec (decodeBus w) t = .next t

/-- Writes to CTRL are idempotent, and no other write has an effect: R58, which the spec marks [derived]. -/
def Obligations.WritesAreIdempotent : Prop :=
  (∀ d s, ∃ t, exec (.wrCtrl d) s = .next t ∧ exec (.wrCtrl d) t = .next t) ∧
  (∀ w : BusWord, w.extractLsb' 12 2 = 0b11#2 → w.extractLsb' 8 4 ≠ 0x1#4 →
    ∀ s, ∃ t, exec (decodeBus w) s = .next t ∧ sameBlock s t)

/-- R59, R61, R180: the byte on `rdata` in a cycle is what the register map holds in S at the offset read, and
0x00 without a read, whatever ticks and edges the cycle also carries. -/
def Obligations.ReadDataFollowsRegisterMap : Prop :=
  (∀ (s : State) b t k, ∃ u, step (s.present ⟨true, b, t, k⟩) = .next u ∧
    u.rdata = if b.getLsbD 13 ∧ b.getLsbD 12 = false then s.regRead (b.extractLsb' 8 4) else 0x00#8) ∧
  (∀ s : State, s.regRead 0x0#4 = s.statusByte ∧ s.regRead 0x1#4 = 0x00#8 ∧
    (s.regRead 0x2#4).toNat = s.count.toNat ∧ s.regRead 0x3#4 = s.stir ∧
    (∀ off : BitVec 2, s.regRead (0b01#2 ++ off) = 0x00#8) ∧
    (∀ i : BitVec 3, s.regRead (0b1#1 ++ i) = s.block.get ⟨i.toNat, i.isLt⟩))

/-- R10, R51: the host address BASE + o is offset o, for every BASE, and no other address is the block's. Host
addresses without a bound are the model's choice (log entry 6). -/
def Obligations.HostAddressesReachRegisters : Prop :=
  (∀ (s : State) a, s.memRead (hostAddress a) = some (s.regRead a)) ∧
  (∀ (s : State) a v, s.memWrite (hostAddress a) v = some (s.regWrite a v)) ∧
  (∀ (s : State) addr, (∀ a : Offset, addr ≠ Config.base + a.toNat) →
    s.memRead addr = none ∧ ∀ v, s.memWrite addr v = none)

/-- R52, R53: byte i of the 64-bit view is BLOCK[i], and its bit j is the display cell at row i, column j. -/
def Obligations.BlockViewsAgree : Prop :=
  ∀ (s : State) (i : Fin 8), s.blockValue.extractLsb' (8 * i.val) 8 = s.block.get i ∧
    ∀ j : Fin 8, s.displayCell (BitVec.ofFin i) (BitVec.ofFin j) = s.blockValue.getLsbD (8 * i.val + j.val)

/-! ## The stirrer and the tick lane -/

/-- R110, R111: bit 7 goes to bit 0, bit i to bit i + 1; eight rotations give the value back. -/
def Obligations.RotateAndStirAsDefined : Prop :=
  (∀ v : Byte, rotl8 v = v.extractLsb' 0 7 ++ v.extractLsb' 7 1) ∧
  (∀ v : Byte, rotl8^[8] v = v) ∧ rotl8 0x80#8 = 0x01#8 ∧
  (∀ s x : Byte, stir s x = (s.extractLsb' 0 7 ++ s.extractLsb' 7 1) ^^^ x)

/-- STIR after eight samples x0..x7 from s is s ^ F(x0..x7): R119, which the spec marks [derived] from R110, R111. -/
def Obligations.EightStirsFormula : Prop :=
  ∀ s x0 x1 x2 x3 x4 x5 x6 x7 : Byte,
    stirAll s [x0, x1, x2, x3, x4, x5, x6, x7] =
      s ^^^ (x7 ^^^ rotl8 x6 ^^^ rotl8^[2] x5 ^^^ rotl8^[3] x4 ^^^ rotl8^[4] x3 ^^^ rotl8^[5] x2
        ^^^ rotl8^[6] x1 ^^^ rotl8^[7] x0)

/-- R112: encoding; a discarded tick; a honoured tick, each element of the state; the corner cases of the same
cycle: (g) BEGIN, (h) CLR_READY with the 64th tick, (i) a read sees the pre-tick state. -/
def Obligations.TickStirsCountsAndStores : Prop :=
  (∀ w : TickWord, w.getLsbD 8 = true → decodeTick w = .tick (w.extractLsb' 0 8)) ∧
  (∀ x s, s.collecting = false → exec (.tick x) s = .next s) ∧
  (∀ x s, s.collecting = true → ∃ t, exec (.tick x) s = .next t ∧
    t.stir = ((s.stir <<< 1) ||| (s.stir >>> 7)) ^^^ x ∧
    t.count.toNat = (if s.count = 63#6 then 0 else s.count.toNat + 1) ∧
    (∀ k : Fin 8, t.block.get k = if s.count.toNat + 1 = 8 * (k.val + 1) then t.stir else s.block.get k) ∧
    t.ready = (s.ready || s.count == 63#6) ∧ t.collecting = !(s.count == 63#6) ∧
    t = { s with stir := t.stir, count := t.count, block := t.block, ready := t.ready,
                 collecting := t.collecting }) ∧
  (∀ (s : State) (b : BusWord) (x : Byte) (k : BtnWord), (Pins.mk true b (0b1#1 ++ x) k).begins = true →
    s.collecting = false → s.count = 0#6 → ∃ t, step (s.present ⟨true, b, 0b1#1 ++ x, k⟩) = .next t ∧
      t.collecting = true ∧ t.count = 1#6 ∧ t.stir = ((s.stir <<< 1) ||| (s.stir >>> 7)) ^^^ x) ∧
  (∀ (s : State) (b : BusWord) (x : Byte) (k : BtnWord), s.collecting = true → s.count = 63#6 →
    ∃ t, step (s.present ⟨true, b, 0b1#1 ++ x, k⟩) = .next t ∧ t.ready = true ∧ t.collecting = false) ∧
  (∀ (s : State) (a : Offset) (x : Byte) (k : BtnWord), ∃ t,
    step (s.present ⟨true, busWord 1#1 0#1 a 0x00#8, 0b1#1 ++ x, k⟩) = .next t ∧ t.rdata = s.regRead a)

/-- R113: encoding and effect. -/
def Obligations.NoTickHasNoEffect : Prop :=
  (∀ w : TickWord, w.getLsbD 8 = false → decodeTick w = .noTick) ∧ (∀ s, exec .noTick s = .next s)

/-- R113: over any number of cycles without a tick or a reset, a collection in progress waits: the block has no
timeout. Cycles without reset is the model's reading (log entry 12, DEDUCED). -/
def Obligations.CollectionWaitsWithoutTicks : Prop :=
  ∀ (s : State) (ps : List Pins), (∀ p ∈ ps, p.rstN = true ∧ p.sample = none) →
    ∃ t, runScript ps s = .next t ∧ t.stir = s.stir ∧ t.count = s.count ∧ t.block = s.block ∧
      (s.collecting = true → t.collecting = true)

/-- R191, R271 (ED1 as a premise on the cycles; no reset between them, log entry 12): the block counts every cycle
with `tick` = 1 of a running collection as one tick: with each firing one cycle (ED1) COUNT counts the firings, and
a firing held for n cycles is n ticks. -/
def Obligations.EveryTickCycleCounts : Prop :=
  (∀ (s : State) (ps : List Pins) (firings : Nat), s.collecting = true → (∀ p ∈ ps, p.rstN = true) →
    tickPulseDuty firings ps → s.count.toNat + firings < 64 →
    ∃ t, runScript ps s = .next t ∧ t.count.toNat = s.count.toNat + firings ∧ t.collecting = true) ∧
  (∀ (n : Nat) (x : Byte) (b : BusWord) (k : BtnWord),
    tickPulseDuty n (List.replicate n ⟨true, b, 0b1#1 ++ x, k⟩))

/-! ## The button lane -/

/-- R151: encoding, effect, frame; the corner cases of the same cycle: (d) ARM, (e) DISARM, (f) CLR_REQ. -/
def Obligations.BtnLowHonoursArmedEdge : Prop :=
  decodeBtn 0#1 = .btnLow ∧
  (∀ s, s.btnPrev = true → s.btnArmed = true →
    exec .btnLow s = .next { s with btnReq := true, btnArmed := false, btnPrev := false }) ∧
  (∀ s, s.btnPrev = false ∨ s.btnArmed = false → exec .btnLow s = .next { s with btnPrev := false }) ∧
  (∀ (s : State) b t, s.btnPrev = true → ∃ u, step (s.present ⟨true, b, t, 0#1⟩) = .next u ∧
    u.btnPrev = false ∧ u.btnArmed = false ∧
    ((Pins.mk true b t 0#1).arms = true → u.btnReq = true) ∧
    ((Pins.mk true b t 0#1).disarms = true → u.btnReq = (s.btnReq && !(Pins.mk true b t 0#1).clearsReq)) ∧
    ((Pins.mk true b t 0#1).clearsReq = true → (Pins.mk true b t 0#1).disarms = false →
      s.btnArmed = true → u.btnReq = true))

/-- R152: encoding, effect, frame: a release is never a request. -/
def Obligations.BtnHighOnlyNotesLevel : Prop :=
  decodeBtn 1#1 = .btnHigh ∧ (∀ s, exec .btnHigh s = .next { s with btnPrev := true })

/-- The arbiter's next state in a cycle that is no reset cycle, whatever its bus and tick operations: R156, which the
spec marks [derived]. -/
def Obligations.ArbiterTransitions : Prop :=
  ∀ (s : State) (p : Pins), p.rstN = true →
    ∃ t, step (s.present p) = .next t ∧
      let armed := !p.disarms && (p.arms || s.btnArmed)
      let fires := armed && s.btnPrev && p.btn == 0#1
      t.btnArmed = (armed && !fires) ∧ t.btnReq = (fires || (s.btnReq && !p.clearsReq)) ∧
      t.btnPrev = (p.btn == 1#1)

/-- From the cycle of one ARM (or any cycle) until the next, at most one cycle moves BTN_REQ from 0 to 1: R157,
which the spec marks [derived] from R151, R153. -/
def Obligations.OneRequestPerArming : Prop :=
  ∀ (s : State) (p : Pins) (ps : List Pins), (∀ q ∈ ps, q.arms = false) → reqRises (p :: ps) s ≤ 1

/-- R159: edges while disarmed are discarded, not latched: over any cycles without ARM no new request appears, and
an ARM after them raises none for them: with the button not falling in its own cycle, it only arms. -/
def Obligations.DisarmedEdgesAreDiscarded : Prop :=
  ∀ (s : State) (ps : List Pins), s.btnArmed = false → (∀ p ∈ ps, p.arms = false) →
    ∃ t, runScript ps s = .next t ∧ t.btnArmed = false ∧ (t.btnReq = true → s.btnReq = true) ∧
      ∀ p : Pins, p.arms = true → p.btn = 1#1 ∨ t.btnPrev = false →
        ∃ u, step (t.present p) = .next u ∧ (u.btnReq = true → t.btnReq = true) ∧ u.btnArmed = true

/-! ## A cycle -/

/-- R92, R260: what a step runs. With `rst_n` = 1 the three decoded operations, in the order bus, tick, button, on
the state with `rdata` 0x00; with `rst_n` = 0 the reset state. The step also consumes this cycle's pin values and
counts the cycle (the model's own fields, log entries 1, 2); the phases in sequence are read from
R92 (log entry 7). -/
def Obligations.StepRunsTheLaneOperations : Prop :=
  (∀ s : State, s.pins.rstN = true →
    step s = andThen (exec (decodeBus s.pins.bus)
        { s with rdata := 0x00#8, pending := s.pending.tail, cycle := s.cycle + 1 })
      (fun u => andThen (exec (decodeTick s.pins.tick) u) (exec (decodeBtn s.pins.btn)))) ∧
  (∀ s : State, s.pins.rstN = false →
    step s = .next { State.reset with pending := s.pending.tail, cycle := s.cycle + 1 }) ∧
  (∀ (s : State) (p : Pins), (s.present p).pins = p)

/-- Log entry 5, the model's own: a word placed on its lane is run, alone, by the very next step. -/
def Obligations.PlacedWordRunsNext : Prop :=
  ∀ (s : State) (nbits w : Nat) (i : Instr), decodeTableWord nbits w = some i →
    step (s.withFetchWord nbits w) =
      exec i { s with rdata := 0x00#8, pending := s.pending.tail, cycle := s.cycle + 1 }

/-- R220: every operation completes in its cycle; no lane operation and no cycle ends in a fault or a refusal. -/
def Obligations.EveryCycleCompletes : Prop :=
  (∀ i s, ∃ t, exec i s = .next t) ∧ (∀ s, ∃ t, step s = .next t)

/-- R260, R261: a reset cycle leaves the reset state whatever the block held and whatever the lanes carry, and the
outputs are 0 in the first cycle after it. -/
def Obligations.ResetCycleLoadsResetState : Prop :=
  ∀ (s : State) (p : Pins), p.rstN = false → ∃ t, step (s.present p) = .next t ∧
    t.stir = 0x00#8 ∧ t.count = 0#6 ∧ (∀ i : Fin 8, t.block.get i = 0x00#8) ∧ t.ready = false ∧
    t.collecting = false ∧ t.btnArmed = false ∧ t.btnReq = false ∧ t.btnPrev = true ∧ t.rdata = 0x00#8 ∧
    sameBlock State.reset t ∧ t.tickEn = false ∧ t.readyO = false ∧ t.btnIrq = false

/-- The collector's next state in a cycle that is no reset cycle: R116, which the spec marks [derived]. -/
def Obligations.CollectorTransitions : Prop :=
  ∀ (s : State) (p : Pins), p.rstN = true →
    ∃ t, step (s.present p) = .next t ∧
      let running := s.collecting || p.begins
      let completes := running && p.sample.isSome && s.count == 63#6
      t.collecting = (running && !completes) ∧ t.ready = (completes || (s.ready && !p.clearsReady)) ∧
      t.count = (if running && p.sample.isSome then s.count + 1#6 else s.count)

/-- R20 to R26, R40: the writers listed are all the writers: outside a reset cycle an element changes only by the
operations the spec names for it. -/
def Obligations.ElementsChangeOnlyByTheirWriters : Prop :=
  ∀ (s : State) (p : Pins) (t : State), p.rstN = true → step (s.present p) = .next t →
    ((t.stir ≠ s.stir ∨ t.count ≠ s.count ∨ t.block ≠ s.block) →
      p.sample.isSome = true ∧ (s.collecting = true ∨ p.begins = true)) ∧
    (t.block ≠ s.block → (s.count.toNat + 1) % 8 = 0) ∧
    (s.ready = false → t.ready = true →
      p.sample.isSome = true ∧ s.count = 63#6 ∧ (s.collecting = true ∨ p.begins = true)) ∧
    (s.ready = true → t.ready = false → p.clearsReady = true) ∧
    (s.collecting = false → t.collecting = true → p.begins = true) ∧
    (s.collecting = true → t.collecting = false → p.sample.isSome = true ∧ s.count = 63#6) ∧
    (s.btnArmed = false → t.btnArmed = true → p.arms = true) ∧
    (s.btnArmed = true → t.btnArmed = false → p.disarms = true ∨ (s.btnPrev = true ∧ p.btn = 0#1)) ∧
    (s.btnReq = false → t.btnReq = true →
      s.btnPrev = true ∧ p.btn = 0#1 ∧ p.disarms = false ∧ (p.arms = true ∨ s.btnArmed = true)) ∧
    (s.btnReq = true → t.btnReq = false → p.clearsReq = true)

/-- R92, and R224, which the spec marks [derived]: the tick and button phases touch disjoint state, so their
relative order changes no result. -/
def Obligations.TickAndButtonPhasesCommute : Prop :=
  ∀ (t : TickWord) (k : BtnWord) (s : State),
    andThen (exec (decodeTick t) s) (exec (decodeBtn k)) = andThen (exec (decodeBtn k) s) (exec (decodeTick t))

/-- The state after a cycle, and `rdata`, are a function of the block's state and the cycle's inputs alone, so the
model's own fields play no part: R119, which the spec marks [derived]. -/
def Obligations.CycleDependsOnBlockAndLanesOnly : Prop :=
  ∀ (s s' t : State) (p : Pins), sameBlock s s' → step (s.present p) = .next t →
    ∃ t', step (s'.present p) = .next t' ∧ sameBlock t t' ∧ t'.rdata = t.rdata

/-! ## Invariants that every step keeps -/

/-- The reset state has COUNT 0 while idle: R260, and R29, which the spec marks [derived]. -/
def Obligations.IdleCountIsZeroAtReset : Prop := State.reset.idleCountZero

/-- COLLECTING = 0 implies COUNT = 0, kept by every step from every state that has it: R29, which the spec marks
[derived] from R21, R24, R112. -/
def Obligations.IdleCountIsZeroKept : Prop :=
  ∀ s t : State, s.idleCountZero → step s = .next t → t.idleCountZero

/-- R260: STIR and BLOCK[7] are both 0x00 at COUNT 0 in the reset state. -/
def Obligations.BoundaryByteIsStirAtReset : Prop := State.reset.stirAtBoundary

/-- At every byte boundary STIR is the byte last written, kept by every step from every state that has it: an
inference from R112 ("The byte written is the new StirState"). -/
def Obligations.BoundaryByteIsStirKept : Prop :=
  ∀ s t : State, s.stirAtBoundary → step s = .next t → t.stirAtBoundary

/-! ## Runs of a collection -/

/-- R117 and R118, which the spec marks [derived] from R112, R114; runs without reset are the model's reading (log
entry 12, DEDUCED). From a state with COLLECTING = 0 (and so COUNT = 0, R29), a BEGIN and then any cycles without
reset, BEGIN and CLR_READY: with xs the first 64 samples presented from the BEGIN's cycle on, every byte whose eight
ticks have come is written from them and no other is, READY becomes 1 at the 64th and COLLECTING and COUNT 0, and
later ticks change nothing. It holds of every prefix of a run, so the bytes are written in order, once each. -/
def Obligations.CollectionAssemblesBlock : Prop :=
  ∀ (s : State) (p : Pins) (ps : List Pins), s.collecting = false → s.idleCountZero → p.begins = true →
    (∀ q ∈ ps, q.rstN = true ∧ q.begins = false ∧ q.clearsReady = false) →
    let xs := (samples (p :: ps)).take 64
    ∃ t, runScript (p :: ps) s = .next t ∧ t.stir = stirAll s.stir xs ∧
      (∀ k : Fin 8, t.block.get k =
        if 8 * (k.val + 1) ≤ xs.length then stirAll s.stir (xs.take (8 * (k.val + 1))) else s.block.get k) ∧
      t.collecting = decide (xs.length < 64) ∧
      t.count.toNat = (if xs.length < 64 then xs.length else 0) ∧
      t.ready = if xs.length < 64 then s.ready && !p.clearsReady else true

/-- R120, which the spec marks [derived] from R112, R119; runs without reset are the model's reading (log entry 12,
DEDUCED). A collection of 64 samples writes BLOCK[0] = s ^ F(W0) and BLOCK[k] = BLOCK[k-1] ^ F(Wk), with s the STIR
at BEGIN, and leaves STIR = BLOCK[7]; where every window has F = 0 all eight bytes are s. -/
def Obligations.CarriedStirChainsBlocks : Prop :=
  ∀ (s : State) (p : Pins) (ps : List Pins), s.collecting = false → s.idleCountZero → p.begins = true →
    (∀ q ∈ ps, q.rstN = true ∧ q.begins = false ∧ q.clearsReady = false) →
    (samples (p :: ps)).length = 64 →
    ∃ t, runScript (p :: ps) s = .next t ∧
      t.block.get 0 = s.stir ^^^ windowMix (window 0 (samples (p :: ps))) ∧
      (∀ k : Nat, ∀ h : k + 1 < 8, t.block.get ⟨k + 1, h⟩ =
        t.block.get ⟨k, Nat.lt_of_succ_lt h⟩ ^^^ windowMix (window (k + 1) (samples (p :: ps)))) ∧
      t.stir = t.block.get 7 ∧
      ((∀ k < 8, windowMix (window k (samples (p :: ps))) = 0x00#8) → ∀ i : Fin 8, t.block.get i = s.stir)

/-- R63 and R118, which the spec marks [derived]; runs without reset are the model's reading (log entry 12, DEDUCED).
Once COLLECTING = 0, no cycle before the next BEGIN (or reset) changes STIR, COUNT or BLOCK, so every
read of them returns what it returned then, whatever ticks, edges and other bus operations come. -/
def Obligations.HandoffKeepsBlockUntilBegin : Prop :=
  ∀ (s : State) (ps : List Pins), s.collecting = false → (∀ p ∈ ps, p.rstN = true ∧ p.begins = false) →
    ∃ t, runScript ps s = .next t ∧ t.collecting = false ∧ t.stir = s.stir ∧ t.count = s.count ∧
      t.block = s.block ∧ ∀ a : Offset, a ≠ 0x0#4 → t.regRead a = s.regRead a

/-- R194 (a named premise) with R112; runs without reset are the model's reading (log entry 12, DEDUCED). Under
TICK_FAIR a collection that runs completes, with no bound on when. -/
def Obligations.CollectionCompletesUnderTickFair : Prop :=
  ∀ (e : Nat → Pins) (s : State), s.collecting = true → (∀ n, (e n).rstN = true) → tickFair e s →
    ∃ n t, runUnder e s n = .next t ∧ t.ready = true ∧ t.collecting = false

/-- R267: a run whose every BEGIN comes with CLR_READY keeps READY from going stale; a BEGIN alone while READY = 1
makes it stale. -/
def Obligations.StartAvoidsStaleReady : Prop :=
  (∀ (s t : State) (ps : List Pins), s.noStaleReady → (∀ p ∈ ps, p.begins = true → p.clearsReady = true) →
    runScript ps s = .next t → t.noStaleReady) ∧
  (∀ (s : State) (k : BtnWord), s.ready = true → ∃ t, step (s.present ⟨true, 0x3101#14, 0x000#9, k⟩) = .next t ∧
    ¬t.noStaleReady)

/-! ## The host that keeps its duties (log entry 11). Each holds for every choice of the host's tunables (D31). -/

/-- R260, R263: what a host relies on holds at reset, with the host at the top of its first episode. The duties' form
is the model's reading (log entry 11). -/
def Obligations.HostRelianceAtReset : Prop := ∀ c : HostTunables, HostRelies c HostView.top State.reset

/-- R195 to R200, R267: what a host that keeps HD1 to HD6 relies on is kept by every cycle of host and block, from every
view and state that have it, and so over every run. The duties' form is the model's reading (log entry 11). -/
def Obligations.HostDutiesKeepReliance : Prop :=
  (∀ (c : HostTunables) (h : HostView) (s t : State) (m : HostMove), HostRelies c h s →
    HostDuties c (h.wake s) s m → step (s.present m.pins) = .next t → HostRelies c ((h.wake s).after s m) t) ∧
  (∀ (c : HostTunables) (h h' : HostView) (s s' : State) (ms : List HostMove),
    HostRelies c h s → HostRun c h s ms h' s' → HostRelies c h' s')

/-- R195 (the duties' form: log entry 11): every BEGIN of a host that keeps its duties starts a fresh collection, by 0x13
or by `clrreq` and then `start`: STATUS is 0x01 in the next cycle, with no stale READY, no request left and the arbiter
disarmed, whatever tick and edge the cycle also carries. -/
def Obligations.HostStartsFreshCollection : Prop :=
  ∀ (c : HostTunables) (h h' : HostView) (s s' : State) (ms : List HostMove) (m : HostMove),
    HostRelies c h s → HostRun c h s ms h' s' → HostDuties c (h'.wake s') s' m → m.pins.begins = true →
    s'.idleCountZero → ∃ t, step (s'.present m.pins) = .next t ∧ t.statusByte = 0x01#8 ∧
      ((h'.wake s').after s' m).phase = .collecting

/-- R196 (the duties' form: log entry 11): the arbiter is disarmed at the top of every Displaying episode and through its
first NEXT_ALLOW_CYCLE raster passes, and an edge of such a cycle raises no request. -/
def Obligations.HostWindowStaysDisarmed : Prop :=
  ∀ (c : HostTunables) (h h' : HostView) (s s' : State) (ms : List HostMove) (m : HostMove),
    HostRelies c h s → HostRun c h s ms h' s' → HostDuties c (h'.wake s') s' m →
    (h'.wake s').phase = .displaying →
    (h'.wake s' = { HostView.top with idleSeen := h'.idleSeen } → s'.btnArmed = false) ∧
    ((h'.wake s').passes < c.nextAllowCycle → s'.btnArmed = false ∧
      ∃ t, step (s'.present m.pins) = .next t ∧ t.btnArmed = false ∧ (t.btnReq = true → s'.btnReq = true))

/-- R197 with R194 and R112 (the duties' form: log entry 11): under TICK_FAIR a host that keeps its duties and acts on
them leaves Collecting: it comes to the top of a Displaying episode with no collection running, READY cleared and the
arbiter disarmed. -/
def Obligations.HostLeavesCollecting : Prop :=
  ∀ (c : HostTunables) (hs : Nat → HostView) (ss : Nat → State) (ms : Nat → HostMove),
    HostPlay c hs ss ms → HostProgress c hs ss ms → HostRelies c (hs 0) (ss 0) →
    tickFair (fun n => (ms n).pins) (ss 0) → ∀ n, (hs n).phase = .collecting →
    ∃ m, n < m ∧ (hs m).phase = .displaying ∧ (hs m).passes = 0 ∧ (hs m).rearmed = false ∧
      (ss m).collecting = false ∧ (ss m).ready = false ∧ (ss m).btnArmed = false

/-- R199, R200, R234 (the duties' form: log entry 11): the edge that comes while a host that keeps its duties sleeps is
honoured, and wakes the host to the top of a Displaying episode, with no collection and the arbiter disarmed. -/
def Obligations.HostWakesOnEdge : Prop :=
  ∀ (c : HostTunables) (h h' : HostView) (s s' : State) (ms : List HostMove) (m : HostMove),
    HostRelies c h s → HostRun c h s ms h' s' → HostDuties c (h'.wake s') s' m →
    (h'.wake s').phase = .sleeping → s'.btnPrev = true → m.btn = 0#1 →
    ∃ t, step (s'.present m.pins) = .next t ∧ t.btnIrq = true ∧ t.btnArmed = false ∧ t.collecting = false ∧
      ((h'.wake s').after s' m).wake t = { HostView.top with idleSeen := h'.idleSeen }

/-- R198 (the duties' form: log entry 11): under the duties every read of BLOCK finds no collection running and returns
BLOCK[idx]. -/
def Obligations.HostReadsNoTornBlock : Prop :=
  ∀ (c : HostTunables) (h h' : HostView) (s s' : State) (ms : List HostMove) (m : HostMove) (idx : BitVec 3),
    HostRelies c h s → HostRun c h s ms h' s' → HostDuties c (h'.wake s') s' m → decodeBus m.bus = .rdBlock idx →
    s'.collecting = false ∧ ∃ t, step (s'.present m.pins) = .next t ∧ t.rdata = s'.blockByte idx

/-- R196, R200, and R269, which the spec marks [derived] (the duties' form: log entry 11): the edge that wakes a
sleeping host starts no collection: until ARM is written again, a host that keeps its duties writes no BEGIN. -/
def Obligations.WakeEdgeStartsNoCollection : Prop :=
  ∀ (c : HostTunables) (h h' : HostView) (s s' : State) (ms : List HostMove),
    h.phase = .sleeping → HostRun c h s ms h' s' →
    (∀ m ∈ ms, m.pins.arms = false) → ∀ m ∈ ms, m.pins.begins = false
end

