-- ==== Sys2Proof/Laws/Decode.lean ====
section
/-! SUPPORT. The fields of a bus word, and that every cycle's decoded operations are well formed. -/

namespace Sys2Proof

open Sys2Proof.Machine

section Fields
variable (req we : BitVec 1) (off : Offset) (d : Byte)

/-- Bit i of a bus word, by the field it is in (R81). -/
theorem busWord_getLsbD (i : Nat) :
    (busWord req we off d).getLsbD i =
      if i < 8 then d.getLsbD i
      else if i < 12 then off.getLsbD (i - 8)
      else if i < 13 then we.getLsbD (i - 12)
      else req.getLsbD (i - 13) := by
  unfold busWord
  simp only [BitVec.getLsbD_append]
  by_cases h8 : i < 8
  · simp [h8]
  · by_cases h12 : i < 12
    · simp [h8, h12, show i - 8 < 4 by omega]
    · by_cases h13 : i < 13
      · simp [h8, h12, h13, show ¬ i - 8 < 4 by omega, show i - 8 - 4 = i - 12 by omega,
          show i - 12 < 1 by omega]
      · simp [h8, h12, h13, show ¬ i - 8 < 4 by omega, show ¬ i - 8 - 4 < 1 by omega,
          show i - 8 - 4 - 1 = i - 13 by omega]

@[simp] theorem busReq_busWord : busReq (busWord req we off d) = req.getLsbD 0 := by
  unfold busReq; rw [busWord_getLsbD]; rfl

@[simp] theorem busWe_busWord : busWe (busWord req we off d) = we.getLsbD 0 := by
  unfold busWe; rw [busWord_getLsbD]; rfl

@[simp] theorem busOffset_busWord : busOffset (busWord req we off d) = off := by
  apply BitVec.eq_of_getLsbD_eq
  intro i hi
  unfold busOffset
  rw [BitVec.getLsbD_extractLsb', busWord_getLsbD, if_neg (by omega), if_pos (by omega)]
  simp [hi]

@[simp] theorem busData_busWord : busData (busWord req we off d) = d := by
  apply BitVec.eq_of_getLsbD_eq
  intro i hi
  unfold busData
  rw [BitVec.getLsbD_extractLsb', busWord_getLsbD, if_pos (by omega)]
  simp [hi]

end Fields

/-- Every bus word is its four fields (R81). -/
theorem busWord_of_fields (b : BusWord) :
    b = busWord (b.extractLsb' 13 1) (b.extractLsb' 12 1) (busOffset b) (busData b) := by
  apply BitVec.eq_of_getLsbD_eq
  intro i hi
  rw [busWord_getLsbD]
  unfold busOffset busData
  simp only [BitVec.getLsbD_extractLsb']
  by_cases h8 : i < 8
  · simp [h8]
  · by_cases h12 : i < 12
    · simp [h8, h12, show i - 8 < 4 by omega, show 8 + (i - 8) = i by omega]
    · by_cases h13 : i < 13
      · simp [h8, h12, h13, show i - 12 < 1 by omega, show 12 + (i - 12) = i by omega]
      · simp [h8, h12, h13, show i - 13 < 1 by omega, show 13 + (i - 13) = i by omega]

/-- The bus lane decodes to bus operations only (R80, R85). -/
theorem decodeBus_lane (b : BusWord) : (decodeBus b).lane = .bus := by
  unfold decodeBus decodeRead decodeWrite
  repeat' split
  all_goals rfl

theorem decodeTick_lane (t : TickWord) : (decodeTick t).lane = .tick := by
  unfold decodeTick
  split <;> rfl

theorem decodeBtn_lane (k : BtnWord) : (decodeBtn k).lane = .btn := by
  unfold decodeBtn
  split <;> rfl

/-- What a cycle decodes is well formed: one operation of each lane on its own lane (R80, R93). -/
theorem pins_ops_wellFormed (p : Pins) : p.ops.wellFormed = true := by
  unfold CycleOps.wellFormed Instr.onLane Pins.ops
  simp only [decodeBus_lane, decodeTick_lane, decodeBtn_lane, beq_self_eq_true, Bool.and_self]

end Sys2Proof
end

