-- ==== Sys2Proof/Laws/State.lean ====
section
/-! SUPPORT. One lemma per field per update of State, each true by rfl, so that no proof unfolds an update. -/

namespace Sys2Proof.Machine

variable (s : State)

@[simp] theorem State.drive_stir (v : Byte) : (s.drive v).stir = s.stir := rfl
@[simp] theorem State.drive_count (v : Byte) : (s.drive v).count = s.count := rfl
@[simp] theorem State.drive_block (v : Byte) : (s.drive v).block = s.block := rfl
@[simp] theorem State.drive_ready (v : Byte) : (s.drive v).ready = s.ready := rfl
@[simp] theorem State.drive_collecting (v : Byte) : (s.drive v).collecting = s.collecting := rfl
@[simp] theorem State.drive_btnArmed (v : Byte) : (s.drive v).btnArmed = s.btnArmed := rfl
@[simp] theorem State.drive_btnReq (v : Byte) : (s.drive v).btnReq = s.btnReq := rfl
@[simp] theorem State.drive_btnPrev (v : Byte) : (s.drive v).btnPrev = s.btnPrev := rfl
@[simp] theorem State.drive_rdata (v : Byte) : (s.drive v).rdata = v := rfl
@[simp] theorem State.drive_pending (v : Byte) : (s.drive v).pending = s.pending := rfl
@[simp] theorem State.drive_cycle (v : Byte) : (s.drive v).cycle = s.cycle := rfl

@[simp] theorem State.begin_stir : (s.begin).stir = s.stir := rfl
@[simp] theorem State.begin_count : (s.begin).count = s.count := rfl
@[simp] theorem State.begin_block : (s.begin).block = s.block := rfl
@[simp] theorem State.begin_ready : (s.begin).ready = s.ready := rfl
@[simp] theorem State.begin_collecting : (s.begin).collecting = true := rfl
@[simp] theorem State.begin_btnArmed : (s.begin).btnArmed = s.btnArmed := rfl
@[simp] theorem State.begin_btnReq : (s.begin).btnReq = s.btnReq := rfl
@[simp] theorem State.begin_btnPrev : (s.begin).btnPrev = s.btnPrev := rfl
@[simp] theorem State.begin_rdata : (s.begin).rdata = s.rdata := rfl
@[simp] theorem State.begin_pending : (s.begin).pending = s.pending := rfl
@[simp] theorem State.begin_cycle : (s.begin).cycle = s.cycle := rfl

@[simp] theorem State.clrReady_stir : (s.clrReady).stir = s.stir := rfl
@[simp] theorem State.clrReady_count : (s.clrReady).count = s.count := rfl
@[simp] theorem State.clrReady_block : (s.clrReady).block = s.block := rfl
@[simp] theorem State.clrReady_ready : (s.clrReady).ready = false := rfl
@[simp] theorem State.clrReady_collecting : (s.clrReady).collecting = s.collecting := rfl
@[simp] theorem State.clrReady_btnArmed : (s.clrReady).btnArmed = s.btnArmed := rfl
@[simp] theorem State.clrReady_btnReq : (s.clrReady).btnReq = s.btnReq := rfl
@[simp] theorem State.clrReady_btnPrev : (s.clrReady).btnPrev = s.btnPrev := rfl
@[simp] theorem State.clrReady_rdata : (s.clrReady).rdata = s.rdata := rfl
@[simp] theorem State.clrReady_pending : (s.clrReady).pending = s.pending := rfl
@[simp] theorem State.clrReady_cycle : (s.clrReady).cycle = s.cycle := rfl

@[simp] theorem State.arm_stir : (s.arm).stir = s.stir := rfl
@[simp] theorem State.arm_count : (s.arm).count = s.count := rfl
@[simp] theorem State.arm_block : (s.arm).block = s.block := rfl
@[simp] theorem State.arm_ready : (s.arm).ready = s.ready := rfl
@[simp] theorem State.arm_collecting : (s.arm).collecting = s.collecting := rfl
@[simp] theorem State.arm_btnArmed : (s.arm).btnArmed = true := rfl
@[simp] theorem State.arm_btnReq : (s.arm).btnReq = s.btnReq := rfl
@[simp] theorem State.arm_btnPrev : (s.arm).btnPrev = s.btnPrev := rfl
@[simp] theorem State.arm_rdata : (s.arm).rdata = s.rdata := rfl
@[simp] theorem State.arm_pending : (s.arm).pending = s.pending := rfl
@[simp] theorem State.arm_cycle : (s.arm).cycle = s.cycle := rfl

@[simp] theorem State.disarm_stir : (s.disarm).stir = s.stir := rfl
@[simp] theorem State.disarm_count : (s.disarm).count = s.count := rfl
@[simp] theorem State.disarm_block : (s.disarm).block = s.block := rfl
@[simp] theorem State.disarm_ready : (s.disarm).ready = s.ready := rfl
@[simp] theorem State.disarm_collecting : (s.disarm).collecting = s.collecting := rfl
@[simp] theorem State.disarm_btnArmed : (s.disarm).btnArmed = false := rfl
@[simp] theorem State.disarm_btnReq : (s.disarm).btnReq = s.btnReq := rfl
@[simp] theorem State.disarm_btnPrev : (s.disarm).btnPrev = s.btnPrev := rfl
@[simp] theorem State.disarm_rdata : (s.disarm).rdata = s.rdata := rfl
@[simp] theorem State.disarm_pending : (s.disarm).pending = s.pending := rfl
@[simp] theorem State.disarm_cycle : (s.disarm).cycle = s.cycle := rfl

@[simp] theorem State.clrReq_stir : (s.clrReq).stir = s.stir := rfl
@[simp] theorem State.clrReq_count : (s.clrReq).count = s.count := rfl
@[simp] theorem State.clrReq_block : (s.clrReq).block = s.block := rfl
@[simp] theorem State.clrReq_ready : (s.clrReq).ready = s.ready := rfl
@[simp] theorem State.clrReq_collecting : (s.clrReq).collecting = s.collecting := rfl
@[simp] theorem State.clrReq_btnArmed : (s.clrReq).btnArmed = s.btnArmed := rfl
@[simp] theorem State.clrReq_btnReq : (s.clrReq).btnReq = false := rfl
@[simp] theorem State.clrReq_btnPrev : (s.clrReq).btnPrev = s.btnPrev := rfl
@[simp] theorem State.clrReq_rdata : (s.clrReq).rdata = s.rdata := rfl
@[simp] theorem State.clrReq_pending : (s.clrReq).pending = s.pending := rfl
@[simp] theorem State.clrReq_cycle : (s.clrReq).cycle = s.cycle := rfl

@[simp] theorem State.setBlock_stir (i : Nat) (v : Byte) : (s.setBlock i v).stir = s.stir := rfl
@[simp] theorem State.setBlock_count (i : Nat) (v : Byte) : (s.setBlock i v).count = s.count := rfl
@[simp] theorem State.setBlock_block (i : Nat) (v : Byte) : (s.setBlock i v).block = s.block.setIfInBounds i v := rfl
@[simp] theorem State.setBlock_ready (i : Nat) (v : Byte) : (s.setBlock i v).ready = s.ready := rfl
@[simp] theorem State.setBlock_collecting (i : Nat) (v : Byte) : (s.setBlock i v).collecting = s.collecting := rfl
@[simp] theorem State.setBlock_btnArmed (i : Nat) (v : Byte) : (s.setBlock i v).btnArmed = s.btnArmed := rfl
@[simp] theorem State.setBlock_btnReq (i : Nat) (v : Byte) : (s.setBlock i v).btnReq = s.btnReq := rfl
@[simp] theorem State.setBlock_btnPrev (i : Nat) (v : Byte) : (s.setBlock i v).btnPrev = s.btnPrev := rfl
@[simp] theorem State.setBlock_rdata (i : Nat) (v : Byte) : (s.setBlock i v).rdata = s.rdata := rfl
@[simp] theorem State.setBlock_pending (i : Nat) (v : Byte) : (s.setBlock i v).pending = s.pending := rfl
@[simp] theorem State.setBlock_cycle (i : Nat) (v : Byte) : (s.setBlock i v).cycle = s.cycle := rfl

@[simp] theorem State.takeButton_stir : (s.takeButton).stir = s.stir := rfl
@[simp] theorem State.takeButton_count : (s.takeButton).count = s.count := rfl
@[simp] theorem State.takeButton_block : (s.takeButton).block = s.block := rfl
@[simp] theorem State.takeButton_ready : (s.takeButton).ready = s.ready := rfl
@[simp] theorem State.takeButton_collecting : (s.takeButton).collecting = s.collecting := rfl
@[simp] theorem State.takeButton_btnArmed : (s.takeButton).btnArmed = false := rfl
@[simp] theorem State.takeButton_btnReq : (s.takeButton).btnReq = true := rfl
@[simp] theorem State.takeButton_btnPrev : (s.takeButton).btnPrev = s.btnPrev := rfl
@[simp] theorem State.takeButton_rdata : (s.takeButton).rdata = s.rdata := rfl
@[simp] theorem State.takeButton_pending : (s.takeButton).pending = s.pending := rfl
@[simp] theorem State.takeButton_cycle : (s.takeButton).cycle = s.cycle := rfl

@[simp] theorem State.notePrev_stir (l : Bool) : (s.notePrev l).stir = s.stir := rfl
@[simp] theorem State.notePrev_count (l : Bool) : (s.notePrev l).count = s.count := rfl
@[simp] theorem State.notePrev_block (l : Bool) : (s.notePrev l).block = s.block := rfl
@[simp] theorem State.notePrev_ready (l : Bool) : (s.notePrev l).ready = s.ready := rfl
@[simp] theorem State.notePrev_collecting (l : Bool) : (s.notePrev l).collecting = s.collecting := rfl
@[simp] theorem State.notePrev_btnArmed (l : Bool) : (s.notePrev l).btnArmed = s.btnArmed := rfl
@[simp] theorem State.notePrev_btnReq (l : Bool) : (s.notePrev l).btnReq = s.btnReq := rfl
@[simp] theorem State.notePrev_btnPrev (l : Bool) : (s.notePrev l).btnPrev = l := rfl
@[simp] theorem State.notePrev_rdata (l : Bool) : (s.notePrev l).rdata = s.rdata := rfl
@[simp] theorem State.notePrev_pending (l : Bool) : (s.notePrev l).pending = s.pending := rfl
@[simp] theorem State.notePrev_cycle (l : Bool) : (s.notePrev l).cycle = s.cycle := rfl

@[simp] theorem State.advance_stir : (s.advance).stir = s.stir := rfl
@[simp] theorem State.advance_count : (s.advance).count = s.count := rfl
@[simp] theorem State.advance_block : (s.advance).block = s.block := rfl
@[simp] theorem State.advance_ready : (s.advance).ready = s.ready := rfl
@[simp] theorem State.advance_collecting : (s.advance).collecting = s.collecting := rfl
@[simp] theorem State.advance_btnArmed : (s.advance).btnArmed = s.btnArmed := rfl
@[simp] theorem State.advance_btnReq : (s.advance).btnReq = s.btnReq := rfl
@[simp] theorem State.advance_btnPrev : (s.advance).btnPrev = s.btnPrev := rfl
@[simp] theorem State.advance_rdata : (s.advance).rdata = s.rdata := rfl
@[simp] theorem State.advance_pending : (s.advance).pending = s.pending.tail := rfl
@[simp] theorem State.advance_cycle : (s.advance).cycle = s.cycle + 1 := rfl

@[simp] theorem State.present_stir (p : Pins) : (s.present p).stir = s.stir := rfl
@[simp] theorem State.present_count (p : Pins) : (s.present p).count = s.count := rfl
@[simp] theorem State.present_block (p : Pins) : (s.present p).block = s.block := rfl
@[simp] theorem State.present_ready (p : Pins) : (s.present p).ready = s.ready := rfl
@[simp] theorem State.present_collecting (p : Pins) : (s.present p).collecting = s.collecting := rfl
@[simp] theorem State.present_btnArmed (p : Pins) : (s.present p).btnArmed = s.btnArmed := rfl
@[simp] theorem State.present_btnReq (p : Pins) : (s.present p).btnReq = s.btnReq := rfl
@[simp] theorem State.present_btnPrev (p : Pins) : (s.present p).btnPrev = s.btnPrev := rfl
@[simp] theorem State.present_rdata (p : Pins) : (s.present p).rdata = s.rdata := rfl
@[simp] theorem State.present_pending (p : Pins) : (s.present p).pending = p :: s.pending := rfl
@[simp] theorem State.present_cycle (p : Pins) : (s.present p).cycle = s.cycle := rfl

@[simp] theorem State.resetBlock_stir : (s.resetBlock).stir = State.reset.stir := rfl
@[simp] theorem State.resetBlock_count : (s.resetBlock).count = State.reset.count := rfl
@[simp] theorem State.resetBlock_block : (s.resetBlock).block = State.reset.block := rfl
@[simp] theorem State.resetBlock_ready : (s.resetBlock).ready = State.reset.ready := rfl
@[simp] theorem State.resetBlock_collecting : (s.resetBlock).collecting = State.reset.collecting := rfl
@[simp] theorem State.resetBlock_btnArmed : (s.resetBlock).btnArmed = State.reset.btnArmed := rfl
@[simp] theorem State.resetBlock_btnReq : (s.resetBlock).btnReq = State.reset.btnReq := rfl
@[simp] theorem State.resetBlock_btnPrev : (s.resetBlock).btnPrev = State.reset.btnPrev := rfl
@[simp] theorem State.resetBlock_rdata : (s.resetBlock).rdata = State.reset.rdata := rfl
@[simp] theorem State.resetBlock_pending : (s.resetBlock).pending = s.pending := rfl
@[simp] theorem State.resetBlock_cycle : (s.resetBlock).cycle = s.cycle := rfl

end Sys2Proof.Machine
end

