-- ==== Sys2Proof/Laws/Ops.lean ====
section
/-! SUPPORT. One lemma per element for each shared operation: everything a CTRL write's commands, a honoured
tick and a register read can do. -/

namespace Sys2Proof.Machine

/-! ## The commands of a CTRL write (R187) -/

section Commands
variable (d : Byte) (s : State)

@[simp] theorem State.ctrlCommands_stir : (s.ctrlCommands d).stir = s.stir := by
  unfold State.ctrlCommands State.command
  cases ctrlClrReady d <;> cases ctrlBegin d <;> cases ctrlClrReq d <;> cases ctrlDisarm d <;>
    cases ctrlArm d <;> rfl

@[simp] theorem State.ctrlCommands_count : (s.ctrlCommands d).count = s.count := by
  unfold State.ctrlCommands State.command
  cases ctrlClrReady d <;> cases ctrlBegin d <;> cases ctrlClrReq d <;> cases ctrlDisarm d <;>
    cases ctrlArm d <;> rfl

@[simp] theorem State.ctrlCommands_block : (s.ctrlCommands d).block = s.block := by
  unfold State.ctrlCommands State.command
  cases ctrlClrReady d <;> cases ctrlBegin d <;> cases ctrlClrReq d <;> cases ctrlDisarm d <;>
    cases ctrlArm d <;> rfl

@[simp] theorem State.ctrlCommands_btnPrev : (s.ctrlCommands d).btnPrev = s.btnPrev := by
  unfold State.ctrlCommands State.command
  cases ctrlClrReady d <;> cases ctrlBegin d <;> cases ctrlClrReq d <;> cases ctrlDisarm d <;>
    cases ctrlArm d <;> rfl

@[simp] theorem State.ctrlCommands_rdata : (s.ctrlCommands d).rdata = s.rdata := by
  unfold State.ctrlCommands State.command
  cases ctrlClrReady d <;> cases ctrlBegin d <;> cases ctrlClrReq d <;> cases ctrlDisarm d <;>
    cases ctrlArm d <;> rfl

@[simp] theorem State.ctrlCommands_pending : (s.ctrlCommands d).pending = s.pending := by
  unfold State.ctrlCommands State.command
  cases ctrlClrReady d <;> cases ctrlBegin d <;> cases ctrlClrReq d <;> cases ctrlDisarm d <;>
    cases ctrlArm d <;> rfl

@[simp] theorem State.ctrlCommands_cycle : (s.ctrlCommands d).cycle = s.cycle := by
  unfold State.ctrlCommands State.command
  cases ctrlClrReady d <;> cases ctrlBegin d <;> cases ctrlClrReq d <;> cases ctrlDisarm d <;>
    cases ctrlArm d <;> rfl

@[simp] theorem State.ctrlCommands_ready : (s.ctrlCommands d).ready = (s.ready && !ctrlClrReady d) := by
  unfold State.ctrlCommands State.command
  cases ctrlClrReady d <;> cases ctrlBegin d <;> cases ctrlClrReq d <;> cases ctrlDisarm d <;>
    cases ctrlArm d <;> simp

@[simp] theorem State.ctrlCommands_collecting :
    (s.ctrlCommands d).collecting = (s.collecting || ctrlBegin d) := by
  unfold State.ctrlCommands State.command
  cases ctrlClrReady d <;> cases ctrlBegin d <;> cases ctrlClrReq d <;> cases ctrlDisarm d <;>
    cases ctrlArm d <;> simp

@[simp] theorem State.ctrlCommands_btnReq : (s.ctrlCommands d).btnReq = (s.btnReq && !ctrlClrReq d) := by
  unfold State.ctrlCommands State.command
  cases ctrlClrReady d <;> cases ctrlBegin d <;> cases ctrlClrReq d <;> cases ctrlDisarm d <;>
    cases ctrlArm d <;> simp

/-- DISARM takes precedence over ARM (D7). -/
@[simp] theorem State.ctrlCommands_btnArmed :
    (s.ctrlCommands d).btnArmed = (!ctrlDisarm d && (ctrlArm d || s.btnArmed)) := by
  unfold State.ctrlCommands State.command
  cases ctrlClrReady d <;> cases ctrlBegin d <;> cases ctrlClrReq d <;> cases ctrlDisarm d <;>
    cases ctrlArm d <;> simp

end Commands

/-! ## A honoured tick (R112) -/

section Tick
variable (x : Byte) (s : State)

@[simp] theorem State.takeTick_stir : (s.takeTick x).stir = Machine.stir s.stir x := rfl

theorem State.takeTick_count :
    (s.takeTick x).count = if s.count = 63#6 then 0#6 else s.count + 1#6 := by
  have h : s.count.toNat + 1 = 64 ↔ s.count = 63#6 := by bv_omega
  unfold State.takeTick
  by_cases hc : s.count = 63#6
  · simp [hc]
  · have hn : ¬ s.count.toNat + 1 = 64 := fun e => hc (h.mp e)
    have : BitVec.ofNat 6 (s.count.toNat + 1) = s.count + 1#6 := by bv_omega
    simp only [hn, hc, if_false, Config.nTicks, this]

theorem State.takeTick_block_get (k : Fin 8) :
    (s.takeTick x).block.get k =
      if s.count.toNat + 1 = 8 * (k.val + 1) then Machine.stir s.stir x else s.block.get k := by
  have hlt : s.count.toNat < 64 := s.count.isLt
  have hk : k.val < 8 := k.isLt
  have hb : (s.takeTick x).block =
      (if (s.count.toNat + 1) % 8 = 0 then
        s.block.setIfInBounds ((s.count.toNat + 1) / 8 - 1) (Machine.stir s.stir x) else s.block) := by
    unfold State.takeTick
    simp only [Config.ticksPerByte]
    by_cases h8 : (s.count.toNat + 1) % 8 = 0 <;> by_cases h64 : s.count.toNat + 1 = 64 <;>
      simp only [h8, h64, if_true, if_false, State.setBlock_block]
  rw [hb]
  by_cases h8 : (s.count.toNat + 1) % 8 = 0
  · simp only [h8, if_true, Vector.get_eq_getElem, Vector.getElem_setIfInBounds]
    have : (s.count.toNat + 1) / 8 - 1 = k.val ↔ s.count.toNat + 1 = 8 * (k.val + 1) := by omega
    simp only [this]
  · have : ¬ s.count.toNat + 1 = 8 * (k.val + 1) := by omega
    simp only [h8, this, if_false]

theorem State.takeTick_ready : (s.takeTick x).ready = (s.ready || s.count == 63#6) := by
  have h : s.count.toNat + 1 = 64 ↔ s.count = 63#6 := by bv_omega
  unfold State.takeTick
  by_cases hc : s.count = 63#6
  · simp [hc]
  · have hn : ¬ s.count.toNat + 1 = 64 := fun e => hc (h.mp e)
    simp only [hn, if_false, Config.nTicks]
    split <;> simp [hc]

theorem State.takeTick_collecting : (s.takeTick x).collecting = (s.collecting && !(s.count == 63#6)) := by
  have h : s.count.toNat + 1 = 64 ↔ s.count = 63#6 := by bv_omega
  unfold State.takeTick
  by_cases hc : s.count = 63#6
  · simp [hc]
  · have hn : ¬ s.count.toNat + 1 = 64 := fun e => hc (h.mp e)
    simp only [hn, if_false, Config.nTicks]
    split <;> simp [hc]

/-- A honoured tick touches no element of the arbiter and none of the model's own fields. -/
theorem State.takeTick_frame :
    (s.takeTick x).btnArmed = s.btnArmed ∧ (s.takeTick x).btnReq = s.btnReq ∧
      (s.takeTick x).btnPrev = s.btnPrev ∧ (s.takeTick x).rdata = s.rdata ∧
      (s.takeTick x).pending = s.pending ∧ (s.takeTick x).cycle = s.cycle := by
  unfold State.takeTick
  by_cases h8 : (s.count.toNat + 1) % Config.ticksPerByte = 0 <;>
    by_cases h64 : s.count.toNat + 1 = Config.nTicks <;> simp [h8, h64]

end Tick

/-! ## The stirrer (R110, R111) -/

/-- rotl8 distributes over exclusive-or (R119). -/
theorem rotl8_xor (a b : Byte) : rotl8 (a ^^^ b) = rotl8 a ^^^ rotl8 b := by
  ext i hi
  by_cases h : i = 0
  · subst h; simp [rotl8]
  · simp [rotl8, h, BitVec.getLsbD_of_ge _ (7 + i) (show 8 ≤ 7 + i by omega)]

theorem stir_eq (s x : Byte) : stir s x = rotl8 s ^^^ x := rfl

end Sys2Proof.Machine
end

