-- ==== Sys2Proof/Laws/Step.lean ====
section
/-! SUPPORT. What each phase of a cycle can do, said once, and the cases of a step. -/

namespace Sys2Proof.Machine

@[simp] theorem andThen_next (s : State) (f : State → Result) : andThen (.next s) f = f s := rfl

/-- A composition answers a next state only through the next state of its first part. -/
theorem andThen_next_iff {o : Result} {f : State → Result} {t : State} :
    andThen o f = .next t ↔ ∃ s, o = .next s ∧ f s = .next t := by
  cases o with
  | next s => simp [andThen]
  | fault r => simp [andThen]
  | refused r => simp [andThen]

@[simp] theorem State.present_pins (p : Pins) (s : State) : (s.present p).pins = p := rfl

@[simp] theorem State.present_advance (p : Pins) (s : State) :
    (s.present p).advance = { s with cycle := s.cycle + 1 } := rfl

/-- The bus phase of a cycle that is no reset cycle: the commands of a CTRL write and nothing else, but `rdata`
(R92, R187, R188). -/
theorem busPhase_spec {p : Pins} (hp : p.rstN = true) {s u : State}
    (h : exec (decodeBus p.bus) s = .next u) :
    u.stir = s.stir ∧ u.count = s.count ∧ u.block = s.block ∧ u.btnPrev = s.btnPrev ∧
      u.collecting = (s.collecting || p.begins) ∧ u.ready = (s.ready && !p.clearsReady) ∧
      u.btnReq = (s.btnReq && !p.clearsReq) ∧ u.btnArmed = (!p.disarms && (p.arms || s.btnArmed)) ∧
      u.pending = s.pending ∧ u.cycle = s.cycle := by
  have hl := decodeBus_lane p.bus
  unfold Pins.begins Pins.clearsReady Pins.clearsReq Pins.disarms Pins.arms Pins.ctrlData
  rw [if_pos hp]
  cases hd : decodeBus p.bus <;> rw [hd] at h hl <;> cases h <;>
    first
    | (simp; done)
    | (rename_i d; simp; cases ctrlDisarm d <;> simp)
    | cases hl

/-- The tick phase: with TICK, a honoured tick where COLLECTING = 1; otherwise nothing (R112, R113). -/
theorem tickPhase_spec {t : TickWord} {s u : State} (h : exec (decodeTick t) s = .next u) :
    u = if tickBit t && s.collecting then s.takeTick (tickSample t) else s := by
  unfold decodeTick at h
  cases hb : tickBit t <;> rw [hb] at h
  · cases h; rfl
  · simp only [exec, execTick, if_true] at h
    cases h
    simp

/-- The button phase: BTN_PREV takes the level, and a falling edge while armed fires (R151, R152). -/
theorem btnPhase_spec {k : BtnWord} {s u : State} (h : exec (decodeBtn k) s = .next u) :
    u = (if !btnLevel k && s.btnPrev && s.btnArmed then s.takeButton else s).notePrev (btnLevel k) := by
  unfold decodeBtn at h
  cases hb : btnLevel k <;> rw [hb] at h <;> cases h <;> simp

/-- The cases of a step: a reset cycle, or the three phases in their order (R92, R260). -/
theorem step_cases {s t : State} (h : step s = .next t) :
    (s.pins.rstN = false ∧ t = s.advance.resetBlock) ∨
      (s.pins.rstN = true ∧ ∃ u v, exec (decodeBus s.pins.bus) (s.advance.drive 0x00#8) = .next u ∧
        exec (decodeTick s.pins.tick) u = .next v ∧ exec (decodeBtn s.pins.btn) v = .next t) := by
  unfold step runCycle at h
  cases hr : s.pins.rstN
  · rw [hr] at h; cases h; exact .inl ⟨rfl, rfl⟩
  · rw [hr] at h
    simp only [if_true, runOps, Pins.ops] at h
    obtain ⟨u, hu, h⟩ := andThen_next_iff.mp h
    obtain ⟨v, hv, h⟩ := andThen_next_iff.mp h
    exact .inr ⟨rfl, u, v, hu, hv, h⟩

end Sys2Proof.Machine
end

