-- ==== Sys2Proof/Laws/Host.lean ====
section
/-! SUPPORT. What a host's move writes, how its view changes, and the runs of the block inside a run of host and
block. -/

namespace Sys2Proof.Machine

@[simp] theorem HostMove.pins_rstN (m : HostMove) : m.pins.rstN = true := rfl
@[simp] theorem HostMove.pins_bus (m : HostMove) : m.pins.bus = m.bus := rfl
@[simp] theorem HostMove.pins_tick (m : HostMove) : m.pins.tick = m.tick := rfl
@[simp] theorem HostMove.pins_btn (m : HostMove) : m.pins.btn = m.btn := rfl

/-- What a cycle asks for when it writes CTRL with `d` (R187). -/
theorem Pins.of_ctrlData {p : Pins} {d : Byte} (h : p.ctrlData = some d) :
    p.begins = ctrlBegin d ∧ p.clearsReady = ctrlClrReady d ∧ p.arms = (ctrlArm d && !ctrlDisarm d) ∧
      p.disarms = ctrlDisarm d ∧ p.clearsReq = ctrlClrReq d := by
  simp [Pins.begins, Pins.clearsReady, Pins.arms, Pins.disarms, Pins.clearsReq, h]

/-- A cycle without a CTRL write asks for nothing. -/
theorem Pins.of_ctrlData_none {p : Pins} (h : p.ctrlData = none) :
    p.begins = false ∧ p.clearsReady = false ∧ p.arms = false ∧ p.disarms = false ∧ p.clearsReq = false := by
  simp [Pins.begins, Pins.clearsReady, Pins.arms, Pins.disarms, Pins.clearsReq, h]

/-- A STATUS read writes nothing. -/
theorem HostMove.ctrlData_of_readsStatus {m : HostMove} (h : m.readsStatus = true) : m.pins.ctrlData = none := by
  have hb : decodeBus m.bus = .rdStatus := by simpa [HostMove.readsStatus] using h
  simp [Pins.ctrlData, hb]

/-- A cycle without a transaction writes nothing. -/
theorem HostMove.ctrlData_of_idle {m : HostMove} (h : decodeBus m.bus = .busIdle) : m.pins.ctrlData = none := by
  simp [Pins.ctrlData, h]

/-- A host that is awake is not woken. -/
theorem HostView.wake_of_awake {h : HostView} (hp : h.phase ≠ .sleeping) (s : State) : h.wake s = h :=
  if_neg fun hw => hp hw.1

/-- A sleeping host without a request sleeps on. -/
theorem HostView.wake_of_quiet {s : State} (hs : s.btnReq = false) (h : HostView) : h.wake s = h :=
  if_neg fun hw => Bool.false_ne_true (hs.symm.trans hw.2)

/-- A sleeping host is woken by BTN_REQ = 1. -/
theorem HostView.wake_of_request {h : HostView} {s : State} (hp : h.phase = .sleeping) (hs : s.btnReq = true) :
    h.wake s = { HostView.top with idleSeen := h.idleSeen } :=
  if_pos ⟨hp, hs⟩

/-- Waking keeps what the host read of the block. -/
@[simp] theorem HostView.wake_idleSeen (h : HostView) (s : State) : (h.wake s).idleSeen = h.idleSeen := by
  unfold HostView.wake
  split <;> rfl

/-- The view after a BEGIN. -/
theorem HostView.after_begins {m : HostMove} (hb : m.pins.begins = true) (h : HostView) (s : State) :
    h.after s m = { HostView.top with phase := .collecting } := if_pos hb

/-- The view after Collecting's `clrrdy`. -/
theorem HostView.after_consumes {h : HostView} {m : HostMove} (hb : m.pins.begins = false)
    (hp : h.phase = .collecting) (hc : m.pins.clearsReady = true) (s : State) :
    h.after s m = { HostView.top with idleSeen := h.idleSeen } := by
  simp [HostView.after, hb, hp, hc]

/-- The view after any other cycle. -/
theorem HostView.after_other {h : HostView} {m : HostMove} (hb : m.pins.begins = false)
    (hn : h.phase ≠ .collecting ∨ m.pins.clearsReady = false) (s : State) :
    h.after s m =
      { phase := if m.halts then .sleeping else h.phase
        passes := if m.passDone && decide (h.phase = .displaying) then h.passes + 1 else h.passes
        rearmed := h.rearmed || m.pins.arms
        request := h.request || (m.readsStatus && h.rearmed && s.btnReq)
        reqCleared := h.reqCleared || (h.request && decide (m.pins.ctrlData = some Pseudo.clrreq.data))
        readySeen := h.readySeen || (m.readsStatus && s.ready)
        idleSeen := h.idleSeen || (m.readsStatus && !s.collecting) } := by
  rcases hn with hn | hn <;> simp [HostView.after, hb, hn]

/-- The block's states in a run of host and block are those of its run under the moves' pins. -/
theorem HostPlay.runUnder_eq {c : HostTunables} {hs : Nat → HostView} {ss : Nat → State} {ms : Nat → HostMove}
    (play : HostPlay c hs ss ms) (n : Nat) : runUnder (fun k => (ms k).pins) (ss 0) n = .next (ss n) := by
  induction n with
  | zero => rfl
  | succ n ih => rw [runUnder, ih]; exact play.stepped n

end Sys2Proof.Machine
end

