-- ==== Sys2Proof/Laws/PerInstr.lean ====
section
/-! SUPPORT. A family of statements about every operation as syntax: its word stands on its lane and matches its
own row of the tables of R85, R86, R87. One lemma for each constructor. -/

namespace Sys2Proof.Laws.EncodingRow

/-- The word of `i` is on `i`'s lane and is of `i`'s row. -/
def Statement (i : Instr) : Prop :=
  (encode i).lane = i.lane ∧
    match encode i with
    | .bus b => ∃ r ∈ busRows, r.op = i.op ∧ b &&& r.mask = r.pattern
    | .tick t => ∃ r ∈ tickRows, r.op = i.op ∧ t &&& r.mask = r.pattern
    | .btn k => ∃ r ∈ btnRows, r.op = i.op ∧ k &&& r.mask = r.pattern

theorem busIdle : Statement .busIdle :=
  ⟨rfl, ⟨.BUS_IDLE, 0x2000#14, 0x0000#14⟩, by decide, rfl, by decide⟩

theorem rdStatus : Statement .rdStatus :=
  ⟨rfl, ⟨.RD_STATUS, 0x3F00#14, 0x2000#14⟩, by decide, rfl, by decide⟩

theorem rdCtrl : Statement .rdCtrl :=
  ⟨rfl, ⟨.RD_CTRL, 0x3F00#14, 0x2100#14⟩, by decide, rfl, by decide⟩

theorem rdCount : Statement .rdCount :=
  ⟨rfl, ⟨.RD_COUNT, 0x3F00#14, 0x2200#14⟩, by decide, rfl, by decide⟩

theorem rdStir : Statement .rdStir :=
  ⟨rfl, ⟨.RD_STIR, 0x3F00#14, 0x2300#14⟩, by decide, rfl, by decide⟩


theorem rdRsvd (off : BitVec 2) : Statement (.rdRsvd off) := by
  refine ⟨rfl, ⟨.RD_RSVD, 0x3C00#14, 0x2400#14⟩, by decide, rfl, ?_⟩
  revert off; decide

theorem rdBlock (idx : BitVec 3) : Statement (.rdBlock idx) := by
  refine ⟨rfl, ⟨.RD_BLOCK, 0x3800#14, 0x2800#14⟩, by decide, rfl, ?_⟩
  revert idx; decide

theorem wrStatus (d : Byte) : Statement (.wrStatus d) := by
  refine ⟨rfl, ⟨.WR_STATUS, 0x3F00#14, 0x3000#14⟩, by decide, rfl, ?_⟩
  revert d; decide

theorem wrCtrl (d : Byte) : Statement (.wrCtrl d) := by
  refine ⟨rfl, ⟨.WR_CTRL, 0x3F00#14, 0x3100#14⟩, by decide, rfl, ?_⟩
  revert d; decide

theorem wrRo (off : BitVec 1) (d : Byte) : Statement (.wrRo off d) := by
  refine ⟨rfl, ⟨.WR_RO, 0x3E00#14, 0x3200#14⟩, by decide, rfl, ?_⟩
  revert d off; decide

theorem wrRsvd (off : BitVec 2) (d : Byte) : Statement (.wrRsvd off d) := by
  refine ⟨rfl, ⟨.WR_RSVD, 0x3C00#14, 0x3400#14⟩, by decide, rfl, ?_⟩
  revert d off; decide

theorem wrBlock (idx : BitVec 3) (d : Byte) : Statement (.wrBlock idx d) := by
  refine ⟨rfl, ⟨.WR_BLOCK, 0x3800#14, 0x3800#14⟩, by decide, rfl, ?_⟩
  revert d idx; decide

theorem tick (smp : Byte) : Statement (.tick smp) := by
  refine ⟨rfl, ⟨.TICK, 0x100#9, 0x100#9⟩, by decide, rfl, ?_⟩
  revert smp; decide

theorem noTick : Statement .noTick :=
  ⟨rfl, ⟨.NO_TICK, 0x100#9, 0x000#9⟩, by decide, rfl, by decide⟩

theorem btnLow : Statement .btnLow :=
  ⟨rfl, ⟨.BTN_LOW, 0x1#1, 0x0#1⟩, by decide, rfl, by decide⟩

theorem btnHigh : Statement .btnHigh :=
  ⟨rfl, ⟨.BTN_HIGH, 0x1#1, 0x1#1⟩, by decide, rfl, by decide⟩


end Sys2Proof.Laws.EncodingRow
end

