-- ==== Sys2Proof/Tests/Slice0.lean ====
section
/-! SUPPORT. Tests of the model. Expected values are the spec's own: the patterns of spec/30_encoding.md, the vectors of
spec/95_test_vectors.md, and the examples of the rules named. The second half shows, for each statement with
hypotheses, a state and operands that meet them. -/

namespace Sys2Proof.Tests

open Sys2Proof Sys2Proof.Machine

/-- The state after one presented cycle. -/
def outcome (p : Pins) (s : State) : State :=
  match step (s.present p) with
  | .next t => t
  | .fault _ => s
  | .refused _ => s

/-- The state after a script. -/
def scripted (ps : List Pins) (s : State) : State :=
  match runScript ps s with
  | .next t => t
  | .fault _ => s
  | .refused _ => s

/-- A cycle that is no reset cycle. -/
def line (b : BusWord) (t : TickWord) (k : BtnWord) : Pins := ⟨true, b, t, k⟩

/-! ## Well-formed cycles: each lane's check refuses another lane's operation (R80) -/

theorem test_wellFormed_cycle : (CycleOps.mk .rdStatus (.tick 0x5A#8) .btnHigh).wellFormed = true := by decide
theorem test_illFormed_bus : (CycleOps.mk (.tick 0x5A#8) .noTick .btnHigh).wellFormed = false := by decide
theorem test_illFormed_tick : (CycleOps.mk .busIdle .busIdle .btnHigh).wellFormed = false := by decide
theorem test_illFormed_btn : (CycleOps.mk .busIdle .noTick (.wrCtrl 0x01#8)).wellFormed = false := by decide

/-! ## Decoding: words written out bit by bit from R85, R86, R87, ignored bits varied -/

theorem test_decode_busIdle : decodeBus 0b01111111111111#14 = .busIdle := by decide
theorem test_decode_rdStatus : decodeBus 0b10000010101010#14 = .rdStatus := by decide
theorem test_decode_rdCtrl : decodeBus 0b10000111111111#14 = .rdCtrl := by decide
theorem test_decode_rdCount : decodeBus 0b10001000000000#14 = .rdCount := by decide
theorem test_decode_rdStir : decodeBus 0b10001100000001#14 = .rdStir := by decide
theorem test_decode_rdRsvd : decodeBus 0b10011011001100#14 = .rdRsvd 2#2 := by decide
theorem test_decode_rdBlock : decodeBus 0b10111011111111#14 = .rdBlock 6#3 := by decide
theorem test_decode_wrStatus : decodeBus 0b11000011110000#14 = .wrStatus 0xF0#8 := by decide
theorem test_decode_wrCtrl : decodeBus 0b11000100010011#14 = .wrCtrl 0x13#8 := by decide
theorem test_decode_wrRo : decodeBus 0b11001100000111#14 = .wrRo 1#1 0x07#8 := by decide
theorem test_decode_wrRsvd : decodeBus 0b11011100010011#14 = .wrRsvd 3#2 0x13#8 := by decide
theorem test_decode_wrBlock : decodeBus 0b11101101010101#14 = .wrBlock 3#3 0x55#8 := by decide
theorem test_decode_tick : decodeTick 0b101011010#9 = .tick 0x5A#8 := by decide
theorem test_decode_noTick : decodeTick 0b011111111#9 = .noTick := by decide
theorem test_decode_btnLow : decodeBtn 0b0#1 = .btnLow := by decide
theorem test_decode_btnHigh : decodeBtn 0b1#1 = .btnHigh := by decide

/-- A number that is no lane's word is refused; the host's widths reach each lane. -/
theorem test_decodeTableWord : decodeTableWord 16 0x3113 = some (.wrCtrl 0x13#8) ∧
    decodeTableWord 16 0x15A = some (.tick 0x5A#8) ∧ decodeTableWord 8 1 = some .btnHigh ∧
    decodeTableWord 16 0x4000 = none ∧ decodeTableWord 8 2 = none := by decide

/-! ## One cycle each (95_test_vectors.md; the state of section 2.4 for reads) -/

/-- Section 2.4. -/
def readState : State :=
  { State.reset with
    collecting := true, btnArmed := true, btnReq := true, count := 0x2A#6, stir := 0xC3#8
    block := #v[0x10#8, 0x21#8, 0x32#8, 0x43#8, 0x54#8, 0x65#8, 0x76#8, 0x87#8] }

/-- Section 2.3, state A: READY and BTN_REQ set. -/
def stateA : State := { State.reset with ready := true, btnReq := true }

/-- T3: the 64th tick is next. -/
def lastTick : State :=
  { State.reset with
    collecting := true, count := 63#6, stir := 0x81#8
    block := #v[0x01#8, 0x02#8, 0x03#8, 0x04#8, 0x05#8, 0x06#8, 0x07#8, 0x00#8] }

theorem test_rdStatus : (outcome (line 0x2000#14 0#9 1#1) readState).rdata = 0x0D#8 := by decide
theorem test_rdCtrl : (outcome (line 0x2100#14 0#9 1#1) readState).rdata = 0x00#8 := by decide
theorem test_rdCount : (outcome (line 0x2200#14 0#9 1#1) readState).rdata = 0x2A#8 := by decide
theorem test_rdStir : (outcome (line 0x2300#14 0#9 1#1) readState).rdata = 0xC3#8 := by decide
theorem test_rdRsvd : (outcome (line 0x2600#14 0#9 1#1) readState).rdata = 0x00#8 := by decide
theorem test_rdBlock_first : (outcome (line 0x2800#14 0#9 1#1) readState).rdata = 0x10#8 := by decide
theorem test_rdBlock_last : (outcome (line 0x2FFF#14 0#9 1#1) readState).rdata = 0x87#8 := by decide

/-- Section 2.5: each ignored write leaves every element unchanged. -/
theorem test_wrStatus : outcome (line 0x30FF#14 0#9 1#1) readState = { readState with cycle := 1 } := by decide
theorem test_wrRo : outcome (line 0x323F#14 0#9 1#1) readState = { readState with cycle := 1 } := by decide
theorem test_wrRsvd : outcome (line 0x3413#14 0#9 1#1) readState = { readState with cycle := 1 } := by decide
theorem test_wrBlock : outcome (line 0x3FFF#14 0#9 1#1) readState = { readState with cycle := 1 } := by decide
theorem test_busIdle : outcome (line 0x1FFF#14 0#9 1#1) readState = { readState with cycle := 1 } := by decide

/-- Section 2.3: 13 gives 01, `rearm` gives 06 (state A). -/
theorem test_wrCtrl : (outcome (line 0x3113#14 0#9 1#1) stateA).statusByte = 0x01#8 ∧
    (outcome (line 0x3114#14 0#9 1#1) stateA).statusByte = 0x06#8 := by decide
/-- Section 2.3: ARM and DISARM together, every bit together (state A). -/
theorem test_wrCtrl_disarm_wins : (outcome (line 0x310C#14 0#9 1#1) stateA).statusByte = 0x0A#8 ∧
    (outcome (line 0x31FF#14 0#9 1#1) stateA).statusByte = 0x01#8 := by decide

/-- T1: a byte boundary. -/
theorem test_tick_boundary :
    (fun t : State => (t.stir, t.count, t.blockByte 0)) (outcome (line 0#14 0x107#9 1#1)
      { State.reset with collecting := true, count := 7#6, stir := 0x04#8 }) = (0x0F#8, 8#6, 0x0F#8) := by decide
/-- T3, T4: the 64th tick, with `start` in its cycle too. -/
theorem test_tick_completes :
    (fun t : State => (t.stir, t.count, t.blockByte 7, t.blockByte 0, t.statusByte))
      (outcome (line 0x3103#14 0x110#9 1#1) lastTick) = (0x13#8, 0#6, 0x13#8, 0x01#8, 0x02#8) := by decide
/-- R113's example: COUNT stays 5. -/
theorem test_noTick : outcome (line 0#14 0x0FF#9 1#1) { State.reset with collecting := true, count := 5#6 } =
    { State.reset with collecting := true, count := 5#6, cycle := 1 } := by decide

/-- K1: an armed falling edge. -/
theorem test_btnLow_fires :
    (fun t : State => (t.btnPrev, t.btnArmed, t.btnReq)) (outcome (line 0#14 0#9 0#1)
      { State.reset with btnArmed := true }) = (false, false, true) := by decide
/-- K3: held low, no edge. -/
theorem test_btnLow_held :
    (fun t : State => (t.btnPrev, t.btnArmed, t.btnReq)) (outcome (line 0#14 0#9 0#1)
      { State.reset with btnArmed := true, btnPrev := false }) = (false, true, false) := by decide
/-- K4: a rising edge. -/
theorem test_btnHigh :
    (fun t : State => (t.btnPrev, t.btnArmed, t.btnReq)) (outcome (line 0#14 0#9 1#1)
      { State.reset with btnArmed := true, btnPrev := false }) = (true, true, false) := by decide

/-- X2: a reset cycle loses the write and the tick. -/
theorem test_reset_cycle : outcome ⟨false, 0x3103#14, 0x155#9, 0#1⟩ readState = { State.reset with cycle := 1 } := by
  decide

/-- The vectors of section 2.1. -/
theorem test_stir : stir 0x80#8 0x01#8 = 0x00#8 ∧ stir 0xC3#8 0x3C#8 = 0xBB#8 ∧ stir 0x7F#8 0x80#8 = 0x7E#8 ∧
    stir 0x12#8 0x34#8 = 0x10#8 := by decide

/-- F of the window W0 of program P1 is 8E, of W1 34. -/
theorem test_windowMix :
    windowMix [0x5A#8, 0xFD#8, 0x2C#8, 0x17#8, 0xAE#8, 0xA1#8, 0x60#8, 0x1B#8] = 0x8E#8 ∧
    windowMix [0xC2#8, 0x05#8, 0x54#8, 0xDF#8, 0x96#8, 0x29#8, 0x08#8, 0x63#8] = 0x34#8 := by decide

/-- The words of P4 c0: B 3101, T 15A, K 1. -/
theorem test_assemble : assemble [{ bus := some (.pseudo .begin), tick := some 0x5A#8, btn := some 1#1 }, {}] =
    [⟨true, 0x3101#14, 0x15A#9, 1#1⟩, ⟨true, 0x0000#14, 0x000#9, 1#1⟩] := by decide

/-- A placed word runs as the first operation after reset. -/
theorem test_withFetchWord :
    (match step (State.reset.withFetchWord 16 0x3101) with
      | .next t => t.statusByte
      | .fault _ => 0xFF#8
      | .refused _ => 0xFF#8) = 0x01#8 := by decide

/-! ## Witnesses: the hypotheses of the statements can be met -/

/-- A bare operation state for witnesses: a collection running at COUNT 0. -/
def running : State := { State.reset with collecting := true }

theorem witness_IgnoredBitsChangeNoEffect :
    ((0x0000#14).getLsbD 13 = false ∧ (0x1FFF#14).getLsbD 13 = false) ∧
    ((0x2000#14).extractLsb' 12 2 = 0b10#2 ∧ (0x2000#14).extractLsb' 8 6 = (0x20FF#14).extractLsb' 8 6) ∧
    ((0x3FFF#14).extractLsb' 12 2 = 0b11#2 ∧ (0x3FFF#14).extractLsb' 8 4 ≠ 0x1#4 ∧
      (0x3FFF#14).extractLsb' 8 6 = (0x3F00#14).extractLsb' 8 6) ∧
    ((0x000#9).getLsbD 8 = false ∧ (0x0FF#9).getLsbD 8 = false) := by decide

theorem witness_BusTable_fields :
    decodeBus 0x2FFF#14 = .rdBlock 7#3 ∧ decodeBus 0x31FF#14 = .wrCtrl 0xFF#8 ∧
    decodeBus 0x3001#14 = .wrStatus 0x01#8 ∧ decodeBus 0x3380#14 = .wrRo 1#1 0x80#8 ∧
    decodeBus 0x3700#14 = .wrRsvd 3#2 0x00#8 ∧ decodeBus 0x3FFF#14 = .wrBlock 7#3 0xFF#8 ∧ decodeTick 0x1FF#9 = .tick 0xFF#8 ∧
    (⟨.WR_BLOCK, 0x3800#14, 0x3800#14⟩ : DecodeRow 14) ∈ busRows ∧
    (⟨.NO_TICK, 0x100#9, 0x000#9⟩ : DecodeRow 9) ∈ tickRows ∧
    (⟨.BTN_HIGH, 0x1#1, 0x1#1⟩ : DecodeRow 1) ∈ btnRows := by decide

theorem witness_BusEncodings :
    (0x20FF#14).extractLsb' 8 6 = 0b100000#6 ∧ (0x2100#14).extractLsb' 8 6 = 0b100001#6 ∧
    (0x2200#14).extractLsb' 8 6 = 0b100010#6 ∧ (0x2300#14).extractLsb' 8 6 = 0b100011#6 ∧
    (0x2400#14).extractLsb' 10 4 = 0b1001#4 ∧ (0x2F00#14).extractLsb' 11 3 = 0b101#3 ∧
    (0x3000#14).extractLsb' 8 6 = 0b110000#6 ∧ (0x31FF#14).extractLsb' 8 6 = 0b110001#6 ∧
    (0x3300#14).extractLsb' 9 5 = 0b11001#5 ∧ (0x3700#14).extractLsb' 10 4 = 0b1101#4 ∧
    (0x3800#14).extractLsb' 11 3 = 0b111#3 ∧ (0x1FFF#14).getLsbD 13 = false ∧
    (0x100#9).getLsbD 8 = true ∧ (0x0FF#9).getLsbD 8 = false := by decide

theorem witness_RdStatusReturnsFlags :
    lastTick.collecting = true ∧ lastTick.ready = false ∧ lastTick.count = 63#6 := by decide

theorem witness_RdCountReturnsCount : State.reset.idleCountZero ∧ State.reset.collecting = false :=
  ⟨fun _ => rfl, rfl⟩

/-- The state after a collection of samples that leaves STIR = BLOCK[7] = 43 (program P1). -/
def consumed : State := { State.reset with stir := 0x43#8, block := State.reset.block.set 7 0x43#8 }

theorem witness_RdStirReturnsStir : lastTick.collecting = true ∧ lastTick.count = 63#6 := by decide

/-- Cycles before any collection: a tick, an edge, a request and an ignored write. -/
theorem witness_RdBlockReturnsByte :
    ∀ p ∈ [line 0x3FAA#14 0x1FF#9 0#1, line 0x3116#14 0x101#9 1#1, line 0x2800#14 0x000#9 0#1], p.begins = false := by
  decide

theorem witness_NoEffectOperationsAreIdle :
    (0xE0#8).extractLsb' 0 5 = 0#5 ∧ (0x30FF#14).extractLsb' 12 2 = 0b11#2 ∧
    (0x30FF#14).extractLsb' 8 4 ≠ 0x1#4 ∧ (0x2100#14).extractLsb' 12 2 = 0b10#2 := by decide

theorem witness_ReadsHaveNoSideEffect : (0x2FFF#14).extractLsb' 12 2 = 0b10#2 := by decide

theorem witness_WritesAreIdempotent :
    (0x3FFF#14).extractLsb' 12 2 = 0b11#2 ∧ (0x3FFF#14).extractLsb' 8 4 ≠ 0x1#4 := by decide

theorem witness_HostAddressesReachRegisters : ∀ a : Offset, Config.base + 16 ≠ Config.base + a.toNat := by
  intro a
  have := a.isLt
  omega

theorem witness_TickStirsCountsAndStores :
    State.reset.collecting = false ∧ running.collecting = true ∧ lastTick.collecting = true ∧
    lastTick.count = 63#6 ∧ (Pins.mk true 0x3101#14 (0b1#1 ++ 0x5A#8) 1#1).begins = true ∧
    State.reset.count = 0#6 := by decide

theorem witness_CollectionWaitsWithoutTicks :
    (∀ p ∈ [line 0x2000#14 0#9 0#1, line 0x3102#14 0x0FF#9 1#1], p.rstN = true ∧ p.sample = none) ∧
      running.collecting = true := by decide

theorem witness_EveryTickCycleCounts :
    { running with count := 61#6 }.collecting = true ∧
    (∀ p ∈ [line 0#14 0x100#9 1#1, line 0x3101#14 0x1FF#9 1#1], p.rstN = true) ∧
    tickPulseDuty 2 [line 0#14 0x100#9 1#1, line 0x3101#14 0x1FF#9 1#1] ∧
    { running with count := 61#6 }.count.toNat + 2 < 64 :=
  ⟨rfl, by decide, rfl, by decide⟩

/-- The arbiter armed, the button released. -/
def armed : State := { State.reset with btnArmed := true }

theorem witness_BtnLowHonoursArmedEdge :
    (armed.btnPrev = true ∧ armed.btnArmed = true) ∧ State.reset.btnArmed = false ∧
    { armed with btnPrev := false }.btnPrev = false ∧ (line 0x3104#14 0#9 0#1).arms = true ∧
    (line 0x3108#14 0#9 0#1).disarms = true ∧
    ((line 0x3110#14 0#9 0#1).clearsReq = true ∧ (line 0x3110#14 0#9 0#1).disarms = false) := by decide

theorem witness_ArbiterTransitions_CollectorTransitions : (line 0x31FF#14 0x1FF#9 0#1).rstN = true := by decide

theorem witness_OneRequestPerArming :
    (∀ q ∈ [line 0#14 0#9 0#1, line 0x3110#14 0#9 1#1, line 0x310C#14 0#9 0#1], q.arms = false) ∧
    reqRises (line 0x3104#14 0#9 1#1 :: [line 0#14 0#9 0#1, line 0x3110#14 0#9 1#1, line 0x310C#14 0#9 0#1])
      State.reset = 1 := by decide

theorem witness_DisarmedEdgesAreDiscarded :
    State.reset.btnArmed = false ∧ stateA.btnArmed = false ∧ stateA.btnReq = true ∧
    (∀ p ∈ [line 0#14 0#9 0#1, line 0#14 0#9 1#1], p.arms = false) ∧
    (line 0x3104#14 0#9 1#1).arms = true ∧ (line 0x3104#14 0#9 1#1).btn = 1#1 := by decide

theorem witness_StepRunsTheLaneOperations :
    (State.reset.present (line 0x3101#14 0#9 1#1)).pins.rstN = true ∧
    (State.reset.present ⟨false, 0#14, 0#9, 1#1⟩).pins.rstN = false := by decide

theorem witness_PlacedWordRunsNext :
    decodeTableWord 16 0x3101 = some (.wrCtrl 0x01#8) ∧ decodeTableWord 9 0x1FF = some (.tick 0xFF#8) ∧
    decodeTableWord 1 0 = some .btnLow ∧ decodeTableWord 14 0 = some .busIdle := by decide

theorem witness_ResetCycleLoadsResetState : (Pins.mk false 0x3103#14 0x155#9 0#1).rstN = false := by decide

/-- Each clause of the writers' statement has a cycle that meets it: the 64th tick, a collection's start, a firing
edge, a disarm, a clear, an arm. -/
theorem witness_ElementsChangeOnlyByTheirWriters :
    (outcome (line 0#14 0x110#9 1#1) lastTick).stir ≠ lastTick.stir ∧
    (outcome (line 0#14 0x110#9 1#1) lastTick).block ≠ lastTick.block ∧
    (lastTick.ready = false ∧ (outcome (line 0#14 0x110#9 1#1) lastTick).ready = true) ∧
    (outcome (line 0#14 0x110#9 1#1) lastTick).collecting = false ∧
    (stateA.ready = true ∧ (outcome (line 0x3112#14 0#9 1#1) stateA).ready = false) ∧
    (stateA.btnReq = true ∧ (outcome (line 0x3112#14 0#9 1#1) stateA).btnReq = false) ∧
    (outcome (line 0x3101#14 0#9 1#1) State.reset).collecting = true ∧
    (outcome (line 0x3104#14 0#9 1#1) State.reset).btnArmed = true ∧
    (outcome (line 0x3108#14 0#9 1#1) armed).btnArmed = false ∧
    ((outcome (line 0#14 0#9 0#1) armed).btnArmed = false ∧ (outcome (line 0#14 0#9 0#1) armed).btnReq = true) := by
  decide

theorem witness_ElementsChange_step :
    step (lastTick.present (line 0#14 0x110#9 1#1)) = .next (outcome (line 0#14 0x110#9 1#1) lastTick) := by rfl

theorem witness_CycleDependsOnBlockAndLanesOnly :
    sameBlock readState { readState with rdata := 0x55#8, cycle := 9 } ∧
    step (readState.present (line 0x2000#14 0#9 1#1)) = .next (outcome (line 0x2000#14 0#9 1#1) readState) :=
  ⟨⟨rfl, rfl, rfl, rfl, rfl, rfl, rfl, rfl⟩, rfl⟩

theorem witness_IdleCountIsZeroKept :
    (lastTick.present (line 0#14 0x110#9 1#1)).idleCountZero ∧
    step (lastTick.present (line 0#14 0x110#9 1#1)) = .next (outcome (line 0#14 0x110#9 1#1) lastTick) :=
  ⟨fun h => Bool.noConfusion h, rfl⟩

theorem witness_BoundaryByteIsStirKept :
    (lastTick.present (line 0#14 0x110#9 1#1)).stirAtBoundary ∧
    step (lastTick.present (line 0#14 0x110#9 1#1)) = .next (outcome (line 0#14 0x110#9 1#1) lastTick) :=
  ⟨fun h => absurd h (by decide), rfl⟩

/-- 64 ticks. -/
def ticks64 : List Pins := List.replicate 64 (line 0#14 0x1AA#9 1#1)

theorem witness_CollectionAssemblesBlock :
    State.reset.collecting = false ∧ State.reset.idleCountZero ∧ (line 0x3103#14 0#9 1#1).begins = true ∧
    (∀ q ∈ ticks64, q.rstN = true ∧ q.begins = false ∧ q.clearsReady = false) ∧
    (samples (line 0x3103#14 0#9 1#1 :: ticks64)).length = 64 :=
  ⟨rfl, fun _ => rfl, by decide, by decide, by decide⟩

/-- The same hypotheses, for the statement over a whole collection. -/
theorem witness_CarriedStirChainsBlocks :
    consumed.collecting = false ∧ consumed.idleCountZero ∧ (line 0x3103#14 0#9 1#1).begins = true ∧
    (∀ q ∈ ticks64, q.rstN = true ∧ q.begins = false ∧ q.clearsReady = false) ∧
    (samples (line 0x3103#14 0#9 1#1 :: ticks64)).length = 64 ∧
    (∀ k < 8, windowMix (window k (samples (line 0x3103#14 0#9 1#1 :: ticks64))) = 0x00#8) :=
  ⟨rfl, fun _ => rfl, by decide, by decide, by decide, by decide⟩

theorem witness_HandoffKeepsBlockUntilBegin :
    consumed.collecting = false ∧
    (∀ p ∈ [line 0#14 0x177#9 1#1, line 0x3FFF#14 0x1FF#9 0#1, line 0x31FE#14 0#9 1#1],
      p.rstN = true ∧ p.begins = false) := by decide

theorem line_ticks : (line 0#14 0x15A#9 1#1).sample.isSome = true := by decide

theorem witness_CollectionCompletesUnderTickFair :
    running.collecting = true ∧ (∀ n, ((fun _ : Nat => line 0#14 0x15A#9 1#1) n).rstN = true) ∧
    tickFair (fun _ => line 0#14 0x15A#9 1#1) running :=
  ⟨rfl, fun _ => rfl, fun n _ => ⟨n, le_refl n, line_ticks⟩⟩

theorem witness_StartAvoidsStaleReady :
    stateA.noStaleReady ∧ (∀ p ∈ [line 0x3113#14 0x15A#9 1#1], p.begins = true → p.clearsReady = true) ∧
    runScript [line 0x3113#14 0x15A#9 1#1] stateA = .next (scripted [line 0x3113#14 0x15A#9 1#1] stateA) ∧
    stateA.ready = true :=
  ⟨fun h => Bool.noConfusion h.1, by decide, rfl, rfl⟩

/-! ### The host -/

/-- A host whose episodes have three raster passes, the first of them the debounce window. -/
def tunables : HostTunables := ⟨0, 3, 1⟩

/-- A move of the bus lane alone, with the button released. -/
def busMove (b : BusWord) : HostMove := ⟨b, false, false, 0#9, 1#1⟩

/-- The host's view at the end of an episode in which it has not yet re-armed, and in one in which it saw a request. -/
def lateView : HostView := { HostView.top with passes := 3 }
def askedView : HostView := { HostView.top with passes := 2, rearmed := true, request := true }

/-- The host re-arms and halts; the button is not pressed. -/
def moveSleep : HostMove := ⟨0x3114#14, false, true, 0#9, 1#1⟩

/-- The host is halted; the button is pressed: the wake edge. -/
def movePress : HostMove := ⟨0#14, false, false, 0#9, 0#1⟩

/-- One cycle of host and block: the view and the state after it. -/
def hostCycle (m : HostMove) (p : HostView × State) : HostView × State :=
  ((p.1.wake p.2).after p.2 m, outcome m.pins p.2)

/-- Asleep, woken by the edge, and back from the first STATUS read. -/
def asleep : HostView × State := hostCycle moveSleep (lateView, State.reset)
def woken : HostView × State := hostCycle movePress asleep
def readBack : HostView × State := hostCycle (busMove 0x2000#14) woken

/-- Duties of a move that writes no command, ends no pass and halts nothing, and reads BLOCK only when it may. -/
theorem quietMove_duties {c : HostTunables} {h : HostView} {s : State} {m : HostMove} (h1 : m.pins.ctrlData = none)
    (h2 : h.idleSeen = true ∨ ∀ idx, decodeBus m.bus ≠ .rdBlock idx) (h3 : m.halts = false) (h4 : m.passDone = false)
    (h5 : h.phase = .sleeping → decodeBus m.bus = .busIdle) : HostDuties c h s m := by
  obtain ⟨b, r, a, -, -⟩ := Pins.of_ctrlData_none h1
  exact
    { start := fun x => absurd x (by simp [b])
      debounce := fun x => absurd x (by simp [a])
      rearm := fun x => absurd x (by simp [h4])
      consume := fun x => absurd x (by simp [r])
      readBlock := fun idx x => h2.elim id fun g => absurd x (g idx)
      shows := fun x => absurd x (by simp [h4])
      sleep := fun x => absurd x (by simp [h3])
      halted := h5 }

/-- Duties of the move that re-arms and halts. -/
theorem moveSleep_duties {c : HostTunables} {h : HostView} (s : State) (hp : h.phase = .displaying)
    (hw : c.nextAllowCycle ≤ h.passes) (hs : c.showCycles ≤ h.passes) (hr : h.request = false) :
    HostDuties c h s moveSleep where
  start x := absurd x (by decide)
  debounce _ := ⟨hp, hw, hr, by unfold HostMove.writes; decide⟩
  rearm x := absurd x (by decide)
  consume x := absurd x (by decide)
  readBlock idx x := by rw [show decodeBus moveSleep.bus = .wrCtrl 0x14#8 by decide] at x; cases x
  shows x := absurd x (by decide)
  sleep _ := ⟨hp, hs, hr, .inl (by unfold HostMove.writes; decide)⟩
  halted x := absurd (x.symm.trans hp) (by decide)

/-- Duties of the one-write start. -/
theorem startRequest_duties (c : HostTunables) (s : State) (hc : s.collecting = false) :
    HostDuties c askedView s (busMove 0x3113#14) where
  start _ := ⟨rfl, rfl, hc, .inl (by unfold HostMove.writes; decide)⟩
  debounce x := absurd x (by decide)
  rearm x := absurd x (by decide)
  consume _ := .inl (by decide)
  readBlock idx x := by rw [show decodeBus (busMove 0x3113#14).bus = .wrCtrl 0x13#8 by decide] at x; cases x
  shows x := absurd x (by decide)
  sleep x := absurd x (by decide)
  halted x := absurd x (by decide)

/-- What a host relies on, of concrete views and states, is decided flag by flag. -/
theorem relies_of_flags {c : HostTunables} {h : HostView} {s : State} (hi : s.collecting = false)
    (hp : h.phase = .displaying) (ha : s.btnArmed = false) (hw : h.rearmed = true → c.nextAllowCycle ≤ h.passes)
    (hr : h.request = true → h.rearmed = true) (hc : h.reqCleared = false) : HostRelies c h s where
  idle _ := hi
  displayingIdle _ := hi
  collectingBusy x := absurd (x.symm.trans hp) (by decide)
  readyStays x := absurd (x.symm.trans hp) (by decide)
  fresh x := absurd (hi.symm.trans x.1) (by decide)
  unarmed _ _ := ha
  window := hw
  collectingUnarmed x := absurd (x.symm.trans hp) (by decide)
  acting x := ⟨hp, hr x, ha⟩
  cleared x := absurd (hc.symm.trans x) (by decide)
  oneShot x := absurd (ha.symm.trans x.1) (by decide)
  wakeable x := absurd (x.symm.trans hp) (by decide)

theorem late_relies : HostRelies tunables lateView State.reset :=
  relies_of_flags rfl rfl rfl (fun x => absurd x (by decide)) (fun x => absurd x (by decide)) rfl

theorem sleepCycle : HostRun tunables lateView State.reset [moveSleep] asleep.1 asleep.2 :=
  HostRun.cycle (t := asleep.2)
    (moveSleep_duties _ rfl (show 1 ≤ 3 by decide) (show 3 ≤ 3 by decide) rfl) rfl (HostRun.done _ _)

theorem press_duties : HostDuties tunables (asleep.1.wake asleep.2) asleep.2 movePress :=
  quietMove_duties (by decide)
    (.inr (by intro idx; rw [show decodeBus movePress.bus = .busIdle by decide]; simp)) rfl rfl (fun _ => by decide)

theorem pressCycle : HostRun tunables asleep.1 asleep.2 [movePress] woken.1 woken.2 :=
  HostRun.cycle (t := woken.2) press_duties rfl (HostRun.done _ _)

theorem read_duties : HostDuties tunables (woken.1.wake woken.2) woken.2 (busMove 0x2000#14) :=
  quietMove_duties (by decide)
    (.inr (by intro idx; rw [show decodeBus (busMove 0x2000#14).bus = .rdStatus by decide]; simp)) rfl rfl
    (fun x => absurd x (by decide))

/-- The host relies on its view and on the reset state; it sleeps, is woken by an edge and reads STATUS, keeping its
duties in every cycle. -/
theorem witness_HostDutiesKeepReliance :
    HostRelies tunables lateView State.reset ∧
    (HostDuties tunables (lateView.wake State.reset) State.reset moveSleep ∧
      step (State.reset.present moveSleep.pins) = .next asleep.2) ∧
    HostRun tunables lateView State.reset [moveSleep, movePress, busMove 0x2000#14] readBack.1 readBack.2 :=
  ⟨late_relies, ⟨moveSleep_duties _ rfl (show 1 ≤ 3 by decide) (show 3 ≤ 3 by decide) rfl, rfl⟩, HostRun.cycle (t := asleep.2)
    (moveSleep_duties _ rfl (show 1 ≤ 3 by decide) (show 3 ≤ 3 by decide) rfl) rfl
    (HostRun.cycle (t := woken.2) press_duties rfl
      (HostRun.cycle (t := readBack.2) read_duties rfl (HostRun.done _ _)))⟩

/-- A host that acts on a request. -/
theorem witness_HostStartsFreshCollection :
    HostRelies tunables askedView stateA ∧ HostRun tunables askedView stateA [] askedView stateA ∧
    HostDuties tunables (askedView.wake stateA) stateA (busMove 0x3113#14) ∧
    (busMove 0x3113#14).pins.begins = true ∧ stateA.idleCountZero :=
  ⟨relies_of_flags rfl rfl rfl (fun _ => show 1 ≤ 2 by decide) (fun _ => rfl) rfl, HostRun.done _ _,
    startRequest_duties _ _ rfl, by decide, fun _ => rfl⟩

/-- The top of an episode, in the debounce window. -/
theorem witness_HostWindowStaysDisarmed :
    HostRelies tunables HostView.top State.reset ∧
    HostRun tunables HostView.top State.reset [] HostView.top State.reset ∧
    HostDuties tunables (HostView.top.wake State.reset) State.reset movePress ∧
    (HostView.top.wake State.reset).phase = .displaying ∧
    HostView.top.wake State.reset = { HostView.top with idleSeen := HostView.top.idleSeen } ∧
    (HostView.top.wake State.reset).passes < tunables.nextAllowCycle :=
  ⟨relies_of_flags rfl rfl rfl (fun x => absurd x (by decide)) (fun x => absurd x (by decide)) rfl,
    HostRun.done _ _,
    quietMove_duties (by decide)
      (.inr (by intro idx; rw [show decodeBus movePress.bus = .busIdle by decide]; simp)) rfl rfl (fun _ => by decide),
    rfl, rfl, by decide⟩

/-- The sleeping host of the run above and the edge. -/
theorem witness_HostWakesOnEdge :
    HostRelies tunables lateView State.reset ∧
    HostRun tunables lateView State.reset [moveSleep] asleep.1 asleep.2 ∧
    HostDuties tunables (asleep.1.wake asleep.2) asleep.2 movePress ∧
    (asleep.1.wake asleep.2).phase = .sleeping ∧ asleep.2.btnPrev = true ∧ movePress.btn = 0#1 :=
  ⟨late_relies, sleepCycle, press_duties, by decide, by decide, rfl⟩

/-- After the run's STATUS read the host may read BLOCK. -/
theorem witness_HostReadsNoTornBlock :
    HostRelies tunables lateView State.reset ∧
    HostRun tunables lateView State.reset [moveSleep, movePress, busMove 0x2000#14] readBack.1 readBack.2 ∧
    HostDuties tunables (readBack.1.wake readBack.2) readBack.2 (busMove 0x2B00#14) ∧
    decodeBus (busMove 0x2B00#14).bus = .rdBlock 3#3 :=
  ⟨late_relies, witness_HostDutiesKeepReliance.2.2,
    quietMove_duties (by decide) (.inl (by decide)) rfl rfl (fun x => absurd x (by decide)), by decide⟩

/-- A sleeping host and the edge that wakes it. -/
theorem witness_WakeEdgeStartsNoCollection :
    asleep.1.phase = .sleeping ∧ HostRun tunables asleep.1 asleep.2 [movePress] woken.1 woken.2 ∧
    ∀ m ∈ [movePress], m.pins.arms = false :=
  ⟨by decide, pressCycle, by decide⟩

/-! A run without end: the last tick comes; the host polls until READY = 1, writes `clrrdy`, and after an episode
of no passes re-arms and halts for good. -/

/-- A host whose episodes have no raster pass. -/
def hasty : HostTunables := ⟨0, 0, 0⟩

/-- The moves: a STATUS read with the 64th tick, a STATUS read, `clrrdy`, re-arm and halt, then nothing. -/
def playMoves : Nat → HostMove
  | 0 => ⟨0x2000#14, false, false, 0x110#9, 1#1⟩
  | 1 => busMove 0x2000#14
  | 2 => busMove 0x3102#14
  | 3 => moveSleep
  | _ + 4 => busMove 0#14

theorem playMoves_asleep (n : Nat) : playMoves (n + 4) = busMove 0#14 := rfl

/-- Host and block in each cycle of that run. -/
def playAt : Nat → HostView × State
  | 0 => ({ HostView.top with phase := .collecting }, lastTick)
  | n + 1 => hostCycle (playMoves n) (playAt n)

/-- A cycle of nothing, with the button still released, only counts itself. -/
theorem quiet_step {t : State} (h : t.btnPrev = true) :
    step (t.present (busMove 0#14).pins) = .next { t with rdata := 0x00#8, cycle := t.cycle + 1 } := by
  have hb : decodeBus (busMove 0#14).pins.bus = .busIdle := by decide
  have ht : decodeTick (busMove 0#14).pins.tick = .noTick := by decide
  have hk : decodeBtn (busMove 0#14).pins.btn = .btnHigh := by decide
  simp only [step, runCycle, runOps, Pins.ops, State.present_pins, State.present_advance, HostMove.pins_rstN, if_true,
    hb, ht, hk]
  apply congrArg Host.Outcome.next
  ext1 <;> first | rfl | exact h.symm

theorem quiet_outcome {t : State} (h : t.btnPrev = true) :
    outcome (busMove 0#14).pins t = { t with rdata := 0x00#8, cycle := t.cycle + 1 } := by
  rw [outcome, quiet_step h]

/-- From cycle 4 on the host sleeps and the block waits, armed. -/
theorem playAt_asleep (n : Nat) :
    (playAt (n + 4)).1 = (playAt 4).1 ∧ (playAt (n + 4)).2 = { (playAt 4).2 with rdata := 0x00#8, cycle := n + 4 } := by
  induction n with
  | zero => exact ⟨rfl, rfl⟩
  | succ n ih =>
    have hp : (playAt (n + 4)).2.btnPrev = true := by rw [ih.2]; exact rfl
    have hr : (playAt (n + 4)).2.btnReq = false := by rw [ih.2]; exact rfl
    have hn : playAt (n + 1 + 4) = hostCycle (busMove 0#14) (playAt (n + 4)) := by
      rw [show n + 1 + 4 = (n + 4) + 1 by omega, playAt, playMoves_asleep]
    rw [hn, hostCycle, HostView.wake_of_quiet hr, quiet_outcome hp, ih.1, ih.2]
    exact ⟨rfl, rfl⟩

/-- A statement about every cycle of that run is one about its first four cycles and about a sleeping cycle. -/
theorem play_cases {P : Nat → Prop} (h0 : P 0) (h1 : P 1) (h2 : P 2) (h3 : P 3) (h4 : ∀ n, P (n + 4)) (n : Nat) :
    P n := by
  match n with
  | 0 => exact h0
  | 1 => exact h1
  | 2 => exact h2
  | 3 => exact h3
  | n + 4 => exact h4 n

theorem clrrdy_duties : HostDuties hasty ((playAt 2).1.wake (playAt 2).2) (playAt 2).2 (busMove 0x3102#14) where
  start x := absurd x (by decide)
  debounce x := absurd x (by decide)
  rearm x := absurd x (by decide)
  consume _ := .inr ⟨by decide, by decide, by unfold HostMove.writes; decide⟩
  readBlock idx x := by rw [show decodeBus (busMove 0x3102#14).bus = .wrCtrl 0x02#8 by decide] at x; cases x
  shows x := absurd x (by decide)
  sleep x := absurd x (by decide)
  halted x := absurd x (by decide)

/-- The sleeping host's view and the block's flags in the cycles from 4 on. -/
theorem playAt_quiet (n : Nat) : (playAt (n + 4)).1.wake (playAt (n + 4)).2 = (playAt 4).1 := by
  rw [HostView.wake_of_quiet (by rw [(playAt_asleep n).2]; exact rfl), (playAt_asleep n).1]

theorem play_hostPlay : HostPlay hasty (fun n => (playAt n).1) (fun n => (playAt n).2) playMoves where
  duties := play_cases
    (quietMove_duties (by decide) (.inr (by intro idx; rw [show decodeBus (playMoves 0).bus = .rdStatus by decide]; simp))
      rfl rfl (fun x => absurd x (by decide)))
    (quietMove_duties (by decide) (.inr (by intro idx; rw [show decodeBus (playMoves 1).bus = .rdStatus by decide]; simp))
      rfl rfl (fun x => absurd x (by decide)))
    clrrdy_duties
    (moveSleep_duties _ (by decide) (Nat.zero_le _) (Nat.zero_le _) (by decide))
    (fun n => quietMove_duties (by rw [playMoves_asleep]; decide)
      (.inr (by intro idx; rw [playMoves_asleep, show decodeBus (busMove 0#14).bus = .busIdle by decide]; simp))
      rfl rfl (fun _ => by rw [playMoves_asleep]; decide))
  stepped := play_cases rfl rfl rfl rfl (fun n => by
    have hp : (playAt (n + 4)).2.btnPrev = true := by rw [(playAt_asleep n).2]; exact rfl
    exact (quiet_step hp).trans (congrArg Host.Outcome.next (quiet_outcome hp).symm))
  viewed _ := rfl

theorem play_hostProgress : HostProgress hasty (fun n => (playAt n).1) (fun n => (playAt n).2) playMoves where
  starts := play_cases (fun x => absurd x (by decide)) (fun x => absurd x (by decide)) (fun x => absurd x (by decide))
    (fun x => absurd x (by decide)) (fun n x => absurd x (by rw [playAt_quiet]; decide))
  rearms := play_cases (fun x => absurd x (by decide)) (fun x => absurd x (by decide)) (fun x => absurd x (by decide))
    (fun _ _ _ => ⟨3, by decide, by unfold HostMove.writes; decide⟩)
    (fun n x => absurd x (by rw [playAt_quiet]; decide))
  polls := play_cases (fun _ _ => ⟨1, by decide, by decide⟩) (fun _ _ => ⟨1, by decide, by decide⟩)
    (fun _ x => absurd x (by decide)) (fun x => absurd x (by decide))
    (fun n x => absurd x (by rw [playAt_quiet]; decide))
  consumes := play_cases (fun _ _ => ⟨2, by decide, by unfold HostMove.writes; decide⟩)
    (fun _ _ => ⟨2, by decide, by unfold HostMove.writes; decide⟩)
    (fun _ _ => ⟨2, by decide, by unfold HostMove.writes; decide⟩) (fun x => absurd x (by decide))
    (fun n x => absurd x (by rw [playAt_quiet]; decide))
  sleeps := play_cases (fun x => absurd x (by decide)) (fun x => absurd x (by decide)) (fun x => absurd x (by decide))
    (fun _ _ _ => ⟨3, by decide, .inl (by decide)⟩) (fun n x => absurd x (by rw [playAt_quiet]; decide))

/-- The host in Collecting with one tick to come, and its run without end. -/
theorem witness_HostLeavesCollecting :
    HostPlay hasty (fun n => (playAt n).1) (fun n => (playAt n).2) playMoves ∧
    HostProgress hasty (fun n => (playAt n).1) (fun n => (playAt n).2) playMoves ∧
    HostRelies hasty (playAt 0).1 (playAt 0).2 ∧
    tickFair (fun n => (playMoves n).pins) (playAt 0).2 ∧ (playAt 0).1.phase = .collecting := by
  refine ⟨play_hostPlay, play_hostProgress, ?_, ?_, rfl⟩
  · exact
      { idle := fun x => absurd x (by decide)
        displayingIdle := fun x => absurd rfl x
        collectingBusy := fun _ => .inl rfl
        readyStays := fun _ x => absurd x (by decide)
        fresh := fun x => absurd x.2 (by decide)
        unarmed := fun _ _ => rfl
        window := fun _ => Nat.zero_le _
        collectingUnarmed := fun _ => rfl
        acting := fun x => absurd x (by decide)
        cleared := fun x => absurd x (by decide)
        oneShot := fun x => absurd x.1 (by decide)
        wakeable := fun x => absurd x (by decide) }
  · intro n running
    have h := running (n + 4) (by omega) _ (play_hostPlay.runUnder_eq (n + 4))
    have hc : (playAt (n + 4)).2.collecting = false := by rw [(playAt_asleep n).2]; exact rfl
    exact absurd (hc.symm.trans h) Bool.false_ne_true

end Sys2Proof.Tests
end

section
/-!
The block's window in the host's address space (R10, R51). `offsetOfAddress` is the partial inverse of
`hostAddress`; what `memRead` and `memWrite` answer at an address follows from that alone.
-/
namespace Sys2Proof.Machine

/-- The sixteen addresses from BASE on, whatever BASE is, decode to the sixteen offsets and no address outside
them decodes to any. -/
theorem offsetOfAddress_eq_some_iff {addr : Nat} {a : Offset} :
    offsetOfAddress addr = some a ↔ addr = hostAddress a := by
  have ha := a.isLt
  unfold offsetOfAddress hostAddress
  split
  next inWindow =>
    rw [Option.some_inj, ← BitVec.toNat_inj, BitVec.toNat_ofNat]
    omega
  next outside =>
    simp only [reduceCtorEq, false_iff]
    omega

@[simp] theorem offsetOfAddress_hostAddress (a : Offset) : offsetOfAddress (hostAddress a) = some a :=
  offsetOfAddress_eq_some_iff.mpr rfl

theorem offsetOfAddress_eq_none {addr : Nat} (foreign : ∀ a, addr ≠ hostAddress a) :
    offsetOfAddress addr = none :=
  Option.eq_none_iff_forall_ne_some.mpr fun a decoded => foreign a (offsetOfAddress_eq_some_iff.mp decoded)

@[simp] theorem State.memRead_hostAddress (s : State) (a : Offset) :
    s.memRead (hostAddress a) = some (s.regRead a) := by
  simp [State.memRead]

@[simp] theorem State.memWrite_hostAddress (s : State) (a : Offset) (v : Byte) :
    s.memWrite (hostAddress a) v = some (s.regWrite a v) := by
  simp [State.memWrite]

theorem State.memRead_eq_none (s : State) {addr : Nat} (foreign : ∀ a, addr ≠ hostAddress a) :
    s.memRead addr = none := by
  simp [State.memRead, offsetOfAddress_eq_none foreign]

theorem State.memWrite_eq_none (s : State) {addr : Nat} (foreign : ∀ a, addr ≠ hostAddress a) (v : Byte) :
    s.memWrite addr v = none := by
  simp [State.memWrite, offsetOfAddress_eq_none foreign]

/-- Settles O22: `offsetOfAddress` inverts `hostAddress` on the block's window and is `none` off it. -/
theorem hostAddressesReachRegisters : Obligations.HostAddressesReachRegisters :=
  ⟨State.memRead_hostAddress, State.memWrite_hostAddress,
    fun s _ foreign => ⟨s.memRead_eq_none foreign, s.memWrite_eq_none foreign⟩⟩

end Sys2Proof.Machine
end

section
/-!
The eight elements after a cycle that is no reset cycle, each from the state before it and the cycle's pins (R92):
the three phases composed, one equation per element. From these equations an element's writers (R20 to R26, R40)
can be read off.
-/
namespace Sys2Proof.Machine

/-! ## The events of a cycle -/

/-- A collection runs through the cycle's tick phase: it ran before, or the cycle's BEGIN starts it (R114). -/
def State.runsIn (s : State) (p : Pins) : Bool := s.collecting || p.begins

/-- The cycle's tick is presented and honoured (R112). -/
def State.honoursTick (s : State) (p : Pins) : Bool := s.runsIn p && p.sample.isSome

/-- The honoured tick is the 64th of the collection (R112). -/
def State.completesIn (s : State) (p : Pins) : Bool := s.honoursTick p && s.count == 63#6

/-- BTN_ARMED as the button phase finds it, after the cycle's commands (R153, R154). -/
def State.armedIn (s : State) (p : Pins) : Bool := !p.disarms && (p.arms || s.btnArmed)

/-- The cycle's falling edge is honoured (R151). -/
def State.firesIn (s : State) (p : Pins) : Bool := s.armedIn p && s.btnPrev && !btnLevel p.btn

theorem State.honoursTick_iff (s : State) (p : Pins) :
    s.honoursTick p = true ↔ p.sample.isSome = true ∧ (s.collecting = true ∨ p.begins = true) := by
  simp [State.honoursTick, State.runsIn, and_comm]

theorem State.completesIn_iff (s : State) (p : Pins) :
    s.completesIn p = true ↔
      p.sample.isSome = true ∧ s.count = 63#6 ∧ (s.collecting = true ∨ p.begins = true) := by
  rw [State.completesIn, Bool.and_eq_true, s.honoursTick_iff, beq_iff_eq, and_assoc, and_comm (a := _ ∨ _)]

theorem State.armedIn_iff (s : State) (p : Pins) :
    s.armedIn p = true ↔ p.disarms = false ∧ (p.arms = true ∨ s.btnArmed = true) := by
  simp [State.armedIn]

theorem btnLevel_eq_false_iff (k : BtnWord) : btnLevel k = false ↔ k = 0#1 := by
  revert k
  decide

theorem State.firesIn_iff (s : State) (p : Pins) :
    s.firesIn p = true ↔ s.armedIn p = true ∧ s.btnPrev = true ∧ p.btn = 0#1 := by
  simp [State.firesIn, btnLevel_eq_false_iff, and_assoc]

theorem Pins.sample_isSome {p : Pins} (running : p.rstN = true) : p.sample.isSome = tickBit p.tick := by
  unfold Pins.sample
  cases tickBit p.tick <;> simp [running]

/-! ## The tick phase and the button phase, element by element -/

/-- What the tick phase leaves (`tickPhase_spec`). -/
def State.afterTick (w : TickWord) (s : State) : State :=
  if tickBit w && s.collecting then s.takeTick (tickSample w) else s

/-- What the button phase leaves (`btnPhase_spec`). -/
def State.afterButton (k : BtnWord) (s : State) : State :=
  (if !btnLevel k && s.btnPrev && s.btnArmed then s.takeButton else s).notePrev (btnLevel k)

section Phases
variable (w : TickWord) (k : BtnWord) (s : State)

@[simp] theorem State.afterTick_stir :
    (s.afterTick w).stir = if s.collecting && tickBit w then Machine.stir s.stir (tickSample w) else s.stir := by
  rw [State.afterTick, Bool.and_comm, apply_ite State.stir, State.takeTick_stir]

@[simp] theorem State.afterTick_count :
    (s.afterTick w).count = if s.collecting && tickBit w then s.count + 1#6 else s.count := by
  have wraps : (if s.count = 63#6 then 0#6 else s.count + 1#6) = s.count + 1#6 := by
    split
    next last => rw [last]; rfl
    next => rfl
  rw [State.afterTick, Bool.and_comm, apply_ite State.count, State.takeTick_count, wraps]

@[simp] theorem State.afterTick_block_get (i : Fin 8) :
    (s.afterTick w).block.get i =
      if (s.collecting && tickBit w) = true ∧ s.count.toNat + 1 = 8 * (i.val + 1) then
        Machine.stir s.stir (tickSample w) else s.block.get i := by
  rw [State.afterTick, Bool.and_comm, apply_ite (fun u : State => u.block.get i), State.takeTick_block_get, ite_and]

@[simp] theorem State.afterTick_collecting :
    (s.afterTick w).collecting = (s.collecting && !(s.collecting && tickBit w && s.count == 63#6)) := by
  rw [State.afterTick, apply_ite State.collecting, State.takeTick_collecting]
  cases tickBit w <;> cases s.collecting <;> simp

@[simp] theorem State.afterTick_ready :
    (s.afterTick w).ready = ((s.collecting && tickBit w && s.count == 63#6) || s.ready) := by
  rw [State.afterTick, apply_ite State.ready, State.takeTick_ready]
  cases tickBit w <;> cases s.collecting <;> simp [Bool.or_comm]

@[simp] theorem State.afterTick_btnArmed : (s.afterTick w).btnArmed = s.btnArmed := by
  obtain ⟨kept, -⟩ := State.takeTick_frame (tickSample w) s
  rw [State.afterTick, apply_ite State.btnArmed, kept, ite_self]

@[simp] theorem State.afterTick_btnReq : (s.afterTick w).btnReq = s.btnReq := by
  obtain ⟨-, kept, -⟩ := State.takeTick_frame (tickSample w) s
  rw [State.afterTick, apply_ite State.btnReq, kept, ite_self]

@[simp] theorem State.afterTick_btnPrev : (s.afterTick w).btnPrev = s.btnPrev := by
  obtain ⟨-, -, kept, -⟩ := State.takeTick_frame (tickSample w) s
  rw [State.afterTick, apply_ite State.btnPrev, kept, ite_self]

@[simp] theorem State.afterButton_stir : (s.afterButton k).stir = s.stir := by
  unfold State.afterButton
  split <;> rfl

@[simp] theorem State.afterButton_count : (s.afterButton k).count = s.count := by
  unfold State.afterButton
  split <;> rfl

@[simp] theorem State.afterButton_block : (s.afterButton k).block = s.block := by
  unfold State.afterButton
  split <;> rfl

@[simp] theorem State.afterButton_ready : (s.afterButton k).ready = s.ready := by
  unfold State.afterButton
  split <;> rfl

@[simp] theorem State.afterButton_collecting : (s.afterButton k).collecting = s.collecting := by
  unfold State.afterButton
  split <;> rfl

@[simp] theorem State.afterButton_btnArmed :
    (s.afterButton k).btnArmed = (s.btnArmed && !(s.btnArmed && s.btnPrev && !btnLevel k)) := by
  unfold State.afterButton
  cases btnLevel k <;> cases s.btnPrev <;> cases armed : s.btnArmed <;> simp [armed]

@[simp] theorem State.afterButton_btnReq :
    (s.afterButton k).btnReq = ((s.btnArmed && s.btnPrev && !btnLevel k) || s.btnReq) := by
  unfold State.afterButton
  cases btnLevel k <;> cases s.btnPrev <;> cases s.btnArmed <;> simp

@[simp] theorem State.afterButton_btnPrev : (s.afterButton k).btnPrev = btnLevel k := rfl

end Phases

/-! ## The cycle -/

/-- The eight elements of `t`, the state after a cycle with pins `p` from `s` that is no reset cycle. -/
structure CycleEffect (p : Pins) (s t : State) : Prop where
  stir : t.stir = if s.honoursTick p then Machine.stir s.stir (tickSample p.tick) else s.stir
  count : t.count = if s.honoursTick p then s.count + 1#6 else s.count
  block : ∀ i : Fin 8, t.block.get i =
    if s.honoursTick p = true ∧ s.count.toNat + 1 = 8 * (i.val + 1) then Machine.stir s.stir (tickSample p.tick)
    else s.block.get i
  ready : t.ready = (s.completesIn p || (s.ready && !p.clearsReady))
  collecting : t.collecting = (s.runsIn p && !s.completesIn p)
  btnArmed : t.btnArmed = (s.armedIn p && !s.firesIn p)
  btnReq : t.btnReq = (s.firesIn p || (s.btnReq && !p.clearsReq))
  btnPrev : t.btnPrev = btnLevel p.btn

/-- A cycle that is no reset cycle is the tick and button phases on what its bus phase leaves (R92). -/
theorem step_present_phases {s t : State} {p : Pins} (running : p.rstN = true)
    (stepped : step (s.present p) = .next t) :
    ∃ u, exec (decodeBus p.bus) ((s.present p).advance.drive 0x00#8) = .next u ∧
      t = (u.afterTick p.tick).afterButton p.btn := by
  obtain ⟨inReset, -⟩ | ⟨-, u, v, busRun, tickRun, btnRun⟩ := step_cases stepped
  · rw [State.present_pins, running] at inReset
    cases inReset
  · rw [State.present_pins] at busRun tickRun btnRun
    refine ⟨u, busRun, ?_⟩
    rw [btnPhase_spec btnRun, tickPhase_spec tickRun]
    rfl

theorem step_cycleEffect {s t : State} {p : Pins} (running : p.rstN = true)
    (stepped : step (s.present p) = .next t) : CycleEffect p s t := by
  obtain ⟨u, busRun, rfl⟩ := step_present_phases running stepped
  obtain ⟨hstir, hcount, hblock, hprev, hcollecting, hready, hreq, harmed, -⟩ := busPhase_spec running busRun
  have honours : (u.collecting && tickBit p.tick) = s.honoursTick p := by
    rw [hcollecting, ← Pins.sample_isSome running]
    rfl
  have arms : u.btnArmed = s.armedIn p := harmed
  have runs : u.collecting = s.runsIn p := hcollecting
  exact
    { stir := by simp [honours, hstir]
      count := by simp [honours, hcount]
      block := by simp [honours, hstir, hcount, hblock]
      ready := by simp [honours, hcount, hready, State.completesIn]
      collecting := by
        rw [State.afterButton_collecting, State.afterTick_collecting, honours, runs, hcount]
        rfl
      btnArmed := by simp [arms, hprev, State.firesIn]
      btnReq := by simp [arms, hprev, hreq, State.firesIn]
      btnPrev := by simp }

/-! ## The writers of each element -/

namespace CycleEffect
variable {p : Pins} {s t : State}

theorem block_eq (e : CycleEffect p s t)
    (unwritten : ∀ i : Fin 8, ¬ (s.honoursTick p = true ∧ s.count.toNat + 1 = 8 * (i.val + 1))) :
    t.block = s.block := by
  refine Vector.ext fun i hi => ?_
  have written := e.block ⟨i, hi⟩
  rwa [if_neg (unwritten ⟨i, hi⟩)] at written

/-- R20, R21, R22: without a honoured tick STIR, COUNT and BLOCK keep their values. -/
theorem data_eq (e : CycleEffect p s t) (quiet : s.honoursTick p ≠ true) :
    t.stir = s.stir ∧ t.count = s.count ∧ t.block = s.block :=
  ⟨by rw [e.stir, if_neg quiet], by rw [e.count, if_neg quiet], e.block_eq fun _ h => quiet h.1⟩

/-- R22: a tick that completes no byte leaves BLOCK alone. -/
theorem boundary_of_block_ne (e : CycleEffect p s t) (changed : t.block ≠ s.block) :
    (s.count.toNat + 1) % 8 = 0 := by
  by_contra inside
  exact changed (e.block_eq fun i ⟨_, boundary⟩ => inside (by omega))

theorem ready_rises (e : CycleEffect p s t) (before : s.ready = false) (after : t.ready = true) :
    s.completesIn p = true := by
  simpa [e.ready, before] using after

theorem ready_falls (e : CycleEffect p s t) (before : s.ready = true) (after : t.ready = false) :
    p.clearsReady = true := by
  rw [e.ready, before, Bool.or_eq_false_iff] at after
  simpa using after.2

theorem collecting_rises (e : CycleEffect p s t) (before : s.collecting = false) (after : t.collecting = true) :
    p.begins = true := by
  rw [e.collecting, Bool.and_eq_true] at after
  simpa [State.runsIn, before] using after.1

theorem collecting_falls (e : CycleEffect p s t) (before : s.collecting = true) (after : t.collecting = false) :
    s.completesIn p = true := by
  simpa [e.collecting, State.runsIn, before] using after

theorem btnArmed_rises (e : CycleEffect p s t) (before : s.btnArmed = false) (after : t.btnArmed = true) :
    p.arms = true := by
  rw [e.btnArmed, Bool.and_eq_true, State.armedIn_iff] at after
  simpa [before] using after.1.2

theorem btnArmed_falls (e : CycleEffect p s t) (before : s.btnArmed = true) (after : t.btnArmed = false) :
    p.disarms = true ∨ s.firesIn p = true := by
  simpa [e.btnArmed, State.armedIn, before, Decidable.imp_iff_not_or] using after

theorem btnReq_rises (e : CycleEffect p s t) (before : s.btnReq = false) (after : t.btnReq = true) :
    s.firesIn p = true := by
  simpa [e.btnReq, before] using after

theorem btnReq_falls (e : CycleEffect p s t) (before : s.btnReq = true) (after : t.btnReq = false) :
    p.clearsReq = true := by
  rw [e.btnReq, before, Bool.or_eq_false_iff] at after
  simpa using after.2

end CycleEffect

/-- Settles O40: each clause is read off the element's equation in `CycleEffect`, with the event it names
(`honoursTick`, `completesIn`, `firesIn`) spelled out. -/
theorem elementsChangeOnlyByTheirWriters : Obligations.ElementsChangeOnlyByTheirWriters := by
  intro s p t running stepped
  have e := step_cycleEffect running stepped
  refine ⟨?data, e.boundary_of_block_ne, fun before after => (s.completesIn_iff p).mp (e.ready_rises before after),
    e.ready_falls, e.collecting_rises, ?collectingFalls, e.btnArmed_rises, ?armedFalls, ?reqRises, e.btnReq_falls⟩
  case data =>
    intro changed
    rw [← s.honoursTick_iff]
    by_contra quiet
    obtain ⟨stirKept, countKept, blockKept⟩ := e.data_eq quiet
    obtain h | h | h := changed
    · exact h stirKept
    · exact h countKept
    · exact h blockKept
  case collectingFalls =>
    intro before after
    obtain ⟨ticked, last, -⟩ := (s.completesIn_iff p).mp (e.collecting_falls before after)
    exact ⟨ticked, last⟩
  case armedFalls =>
    intro before after
    exact (e.btnArmed_falls before after).imp_right fun fires => ((s.firesIn_iff p).mp fires).2
  case reqRises =>
    intro before after
    obtain ⟨armed, prev, low⟩ := (s.firesIn_iff p).mp (e.btnReq_rises before after)
    obtain ⟨enabled, source⟩ := (s.armedIn_iff p).mp armed
    exact ⟨prev, low, enabled, source⟩

end Sys2Proof.Machine
end

section
/-!
The bus phase is the register map (R59): a read of an offset drives what `regRead` holds there, a write performs
`regWrite`. So the side effects of a read (R57) and the byte a cycle returns (R61, R180) are facts about the map.
-/
namespace Sys2Proof.Machine

/-! ## The register map -/

section RegisterMap
variable (s : State)

@[simp] theorem State.drive_drive (v w : Byte) : (s.drive v).drive w = s.drive w := rfl

@[simp] theorem State.regRead_drive (v : Byte) (a : Offset) : (s.drive v).regRead a = s.regRead a := rfl

@[simp] theorem State.regRead_advance (a : Offset) : s.advance.regRead a = s.regRead a := rfl

@[simp] theorem State.regRead_present (p : Pins) (a : Offset) : (s.present p).regRead a = s.regRead a := rfl

/-- R39: the reserved offsets 0x4 to 0x7. -/
theorem State.regRead_rsvd (off : BitVec 2) : s.regRead (0b01#2 ++ off) = 0x00#8 := by
  have reserved : ∀ off : BitVec 2, 0b01#2 ++ off ≠ 0x0#4 ∧ 0b01#2 ++ off ≠ 0x1#4 ∧ 0b01#2 ++ off ≠ 0x2#4 ∧
      0b01#2 ++ off ≠ 0x3#4 ∧ (0b01#2 ++ off).getLsbD 3 = false := by decide
  obtain ⟨ne0, ne1, ne2, ne3, low⟩ := reserved off
  rw [State.regRead, if_neg ne0, if_neg ne1, if_neg ne2, if_neg ne3, low, if_neg Bool.false_ne_true]

/-- R59: the offsets 0x8 to 0xF. -/
theorem State.regRead_block (i : BitVec 3) : s.regRead (0b1#1 ++ i) = s.blockByte i := by
  have inBlock : ∀ i : BitVec 3, 0b1#1 ++ i ≠ 0x0#4 ∧ 0b1#1 ++ i ≠ 0x1#4 ∧ 0b1#1 ++ i ≠ 0x2#4 ∧
      0b1#1 ++ i ≠ 0x3#4 ∧ (0b1#1 ++ i).getLsbD 3 = true ∧ offsetBlock (0b1#1 ++ i) = i := by decide
  obtain ⟨ne0, ne1, ne2, ne3, high, index⟩ := inBlock i
  rw [State.regRead, if_neg ne0, if_neg ne1, if_neg ne2, if_neg ne3, if_pos high, index]

/-- R183: COUNT is zero-extended, so its value is kept. -/
theorem State.regRead_count_toNat : (s.regRead 0x2#4).toNat = s.count.toNat := by
  have zeroExtended : s.regRead 0x2#4 = s.count.setWidth 8 := rfl
  rw [zeroExtended, BitVec.toNat_setWidth_of_le (by omega)]

end RegisterMap

/-! ## The bus phase -/

/-- The decoder's branches for a read are the register map's (R59, R85). -/
theorem exec_decodeRead (a : Offset) (s : State) : exec (decodeRead a) s = .next (s.drive (s.regRead a)) := by
  unfold decodeRead State.regRead
  split_ifs <;> rfl

/-- A write of any offset but CTRL decodes to an operation that is ignored (R58, R188). -/
theorem exec_decodeWrite (a : Offset) (v : Byte) (s : State) :
    exec (decodeWrite a v) s = .next ((s.regWrite a v).drive 0x00#8) := by
  unfold State.regWrite
  split
  next ctrl => subst ctrl; rfl
  next other =>
    unfold decodeWrite
    rw [if_neg other]
    split_ifs <;> rfl

/-- The byte on `rdata` for the bus word `w` in state `s` (R180). -/
def State.busReply (w : BusWord) (s : State) : Byte :=
  if busReq w ∧ busWe w = false then s.regRead (busOffset w) else 0x00#8

/-- What the bus phase leaves (R85, R92). -/
def State.afterBus (w : BusWord) (s : State) : State :=
  (if busReq w ∧ busWe w then s.regWrite (busOffset w) (busData w) else s).drive (s.busReply w)

@[simp] theorem State.afterBus_rdata (w : BusWord) (s : State) : (s.afterBus w).rdata = s.busReply w := rfl

theorem exec_decodeBus (w : BusWord) (s : State) : exec (decodeBus w) s = .next (s.afterBus w) := by
  unfold decodeBus State.afterBus State.busReply
  cases busReq w
  case false => rfl
  case true =>
    cases busWe w
    case false => exact exec_decodeRead _ s
    case true => exact exec_decodeWrite _ _ s

/-- A word with req = 1 and we = 0 is a read of its offset (R81, R85). -/
theorem decodeBus_of_read {w : BusWord} (read : w.extractLsb' 12 2 = 0b10#2) :
    decodeBus w = decodeRead (busOffset w) := by
  have bit (i : Nat) := congrArg (fun x : BitVec 2 => x.getLsbD i) read
  have we : busWe w = false := by simpa [busWe] using bit 0
  have req : busReq w = true := by simpa [busReq] using bit 1
  rw [decodeBus, req, we]
  rfl

/-- Settles O19: a read is `drive` of a byte of the register map, which holds no `rdata`. -/
theorem readsHaveNoSideEffect : Obligations.ReadsHaveNoSideEffect := by
  intro w read s
  rw [decodeBus_of_read read]
  refine ⟨s.drive (s.regRead (busOffset w)), exec_decodeRead _ s, rfl, ?again⟩
  rw [exec_decodeRead, State.regRead_drive, State.drive_drive]

/-! ## The cycle -/

theorem exec_decodeTick (w : TickWord) (s : State) : exec (decodeTick w) s = .next (s.afterTick w) := by
  unfold decodeTick State.afterTick
  cases tickBit w
  case false => rfl
  case true => simp [exec, execTick]

theorem exec_decodeBtn (k : BtnWord) (s : State) : exec (decodeBtn k) s = .next (s.afterButton k) := by
  unfold decodeBtn State.afterButton
  cases btnLevel k
  case false => simp [exec, execBtnLow]
  case true => rfl

@[simp] theorem State.afterTick_rdata (w : TickWord) (s : State) : (s.afterTick w).rdata = s.rdata := by
  obtain ⟨-, -, -, kept, -⟩ := State.takeTick_frame (tickSample w) s
  rw [State.afterTick, apply_ite State.rdata, kept, ite_self]

@[simp] theorem State.afterButton_rdata (k : BtnWord) (s : State) : (s.afterButton k).rdata = s.rdata := by
  unfold State.afterButton
  split <;> rfl

/-- A cycle that is no reset cycle always answers, with the three phases of R92. -/
theorem step_present_eq (s : State) {p : Pins} (running : p.rstN = true) :
    step (s.present p) =
      .next (((((s.present p).advance.drive 0x00#8).afterBus p.bus).afterTick p.tick).afterButton p.btn) := by
  rw [step, runCycle, State.present_pins, if_pos running, runOps, Pins.ops, exec_decodeBus, andThen_next,
    exec_decodeTick, andThen_next, exec_decodeBtn]

/-- Settles O21: the bus phase drives `rdata` from the state before the cycle and the later phases keep it. -/
theorem readDataFollowsRegisterMap : Obligations.ReadDataFollowsRegisterMap := by
  refine ⟨fun s b t k => ⟨_, step_present_eq s rfl, ?reply⟩, fun s => ⟨rfl, rfl, s.regRead_count_toNat, rfl,
    s.regRead_rsvd, s.regRead_block⟩⟩
  case reply =>
    rw [State.afterButton_rdata, State.afterTick_rdata, State.afterBus_rdata, State.busReply, State.regRead_drive,
      State.regRead_advance, State.regRead_present]
    rfl

end Sys2Proof.Machine
end

section
/-! The 64-bit view of the block (R52) and its display cells (R53): bytes peeled off the low end. -/
namespace Sys2Proof.Machine

/-- Byte n + 1 of a value is byte n of what stands above its lowest byte. -/
theorem extractByte_append_succ {w : Nat} (high : BitVec w) (low : Byte) (n : Nat) :
    (high ++ low).extractLsb' (8 * (n + 1)) 8 = high.extractLsb' (8 * n) 8 := by
  rw [BitVec.extractLsb'_append_eq_of_le (by omega)]
  rfl

theorem extractByte_zero (b : Byte) : b.extractLsb' (8 * 0) 8 = b :=
  BitVec.extractLsb'_eq_self

theorem extractByte_append_zero {w : Nat} (high : BitVec w) (low : Byte) :
    (high ++ low).extractLsb' (8 * 0) 8 = low := by
  rw [BitVec.extractLsb'_append_eq_of_add_le (by omega)]
  exact extractByte_zero low

theorem State.blockValue_extractByte (s : State) (i : Fin 8) :
    s.blockValue.extractLsb' (8 * i.val) 8 = s.block.get i := by
  unfold State.blockValue
  fin_cases i <;> simp only [extractByte_append_succ, extractByte_append_zero, extractByte_zero] <;> rfl

/-- Settles O23: the display cell is a bit of BLOCK[i], and BLOCK[i] is byte i of the view. -/
theorem blockViewsAgree : Obligations.BlockViewsAgree := by
  intro s i
  refine ⟨s.blockValue_extractByte i, fun j => ?cell⟩
  case cell =>
    calc s.displayCell (BitVec.ofFin i) (BitVec.ofFin j)
      _ = (s.block.get i).getLsbD j.val := rfl
      _ = s.blockValue.getLsbD (8 * i.val + j.val) := by
        rw [← s.blockValue_extractByte i, BitVec.getLsbD_extractLsb', decide_eq_true j.isLt, Bool.true_and]

end Sys2Proof.Machine
end

section
/-!
The header of a bus word, B[13:8]: req, we and addr. It alone fixes the word's row of R85, so the table is settled on
the 64 headers; and it alone fixes the effect of every operation but WR_CTRL (R88).
-/
namespace Sys2Proof.Machine

/-! ## Words of one header -/

theorem busFields_eq_of_header_eq {v w : BusWord} (header : v.extractLsb' 8 6 = w.extractLsb' 8 6) :
    busReq v = busReq w ∧ busWe v = busWe w ∧ busOffset v = busOffset w := by
  have bit (i : Nat) (hi : i < 6) : v.getLsbD (8 + i) = w.getLsbD (8 + i) := by
    simpa [hi] using congrArg (fun h : BitVec 6 => h.getLsbD i) header
  refine ⟨bit 5 (by omega), bit 4 (by omega), BitVec.eq_of_getLsbD_eq fun i hi => ?offset⟩
  case offset =>
    unfold busOffset
    rw [BitVec.getLsbD_extractLsb', BitVec.getLsbD_extractLsb', bit i (by omega)]

theorem decodeBus_of_idle {w : BusWord} (idle : busReq w = false) : decodeBus w = .busIdle := by
  rw [decodeBus, idle]
  rfl

theorem decodeTick_of_idle {w : TickWord} (idle : tickBit w = false) : decodeTick w = .noTick := by
  rw [decodeTick, idle]
  rfl

/-- R88: outside WR_CTRL the effect of a bus word is that of its header. -/
theorem State.afterBus_eq_of_header_eq {v w : BusWord} (header : v.extractLsb' 8 6 = w.extractLsb' 8 6)
    (notCtrl : busWe v = true → busOffset v ≠ 0x1#4) (s : State) : s.afterBus v = s.afterBus w := by
  obtain ⟨req, we, offset⟩ := busFields_eq_of_header_eq header
  have ignored (d : Byte) : (if busReq w ∧ busWe w then s.regWrite (busOffset w) d else s) = s :=
    ite_eq_right_iff.mpr fun write => if_neg (offset ▸ notCtrl (we.trans write.2))
  rw [State.afterBus, State.afterBus, State.busReply, State.busReply, req, we, offset, ignored, ignored]

/-- Settles O5: idle words and NO_TICK words decode to one operation; reads and ignored writes have the effect of
their header. -/
theorem ignoredBitsChangeNoEffect : Obligations.IgnoredBitsChangeNoEffect := by
  refine ⟨?idle, ?read, ?write, ?noTick⟩
  case idle =>
    intro v w idleV idleW s
    rw [decodeBus_of_idle idleV, decodeBus_of_idle idleW]
  case read =>
    intro v w read header s
    have we : busWe v = false := by
      simpa [busWe] using congrArg (fun x : BitVec 2 => x.getLsbD 0) read
    have notCtrl : busWe v = true → busOffset v ≠ 0x1#4 := by simp [we]
    rw [exec_decodeBus, exec_decodeBus, s.afterBus_eq_of_header_eq header notCtrl]
  case write =>
    intro v w _ other header s
    rw [exec_decodeBus, exec_decodeBus, s.afterBus_eq_of_header_eq header fun _ => other]
  case noTick =>
    intro v w idleV idleW s
    rw [decodeTick_of_idle idleV, decodeTick_of_idle idleW]

/-! ## The rows of the bus table -/

theorem decodeWrite_op_eq (off : Offset) (c d : Byte) : (decodeWrite off c).op = (decodeWrite off d).op := by
  unfold decodeWrite
  split_ifs <;> rfl

theorem decodeBus_op_eq_of_header_eq {v w : BusWord} (header : v.extractLsb' 8 6 = w.extractLsb' 8 6) :
    (decodeBus v).op = (decodeBus w).op := by
  obtain ⟨req, we, offset⟩ := busFields_eq_of_header_eq header
  unfold decodeBus
  rw [req, we, offset]
  split_ifs
  · exact decodeWrite_op_eq _ _ _
  · rfl
  · rfl

/-- The word of a header with data byte 0x00. -/
def headerWord (h : BitVec 6) : BusWord := h ++ 0x00#8

theorem headerWord_header (h : BitVec 6) : (headerWord h).extractLsb' 8 6 = h :=
  BitVec.extractLsb'_append_eq_left

theorem busRow_mask_headerOnly : ∀ r ∈ busRows, 0x3F00#14 &&& r.mask = r.mask := by decide

theorem and_headerMask (w : BusWord) : w &&& 0x3F00#14 = headerWord (w.extractLsb' 8 6) :=
  calc w &&& 0x3F00#14
    _ = (w.extractLsb' 8 6 ++ w.extractLsb' 0 8) &&& (BitVec.allOnes 6 ++ 0x00#8) := by
      rw [BitVec.extractLsb'_append_extractLsb']
      rfl
    _ = headerWord (w.extractLsb' 8 6) := by
      rw [BitVec.and_append, BitVec.and_allOnes, BitVec.and_zero]
      rfl

theorem busRow_and_mask {r : DecodeRow 14} (row : r ∈ busRows) (w : BusWord) :
    w &&& r.mask = headerWord (w.extractLsb' 8 6) &&& r.mask := by
  rw [← and_headerMask, BitVec.and_assoc, busRow_mask_headerOnly r row]

/-- R85 on the 64 headers. -/
theorem busRow_matches_headerWord_iff :
    ∀ r ∈ busRows, ∀ h : BitVec 6, headerWord h &&& r.mask = r.pattern ↔ (decodeBus (headerWord h)).op = r.op := by
  decide

theorem busRow_matches_iff (w : BusWord) {r : DecodeRow 14} (row : r ∈ busRows) :
    w &&& r.mask = r.pattern ↔ (decodeBus w).op = r.op := by
  rw [busRow_and_mask row, busRow_matches_headerWord_iff r row,
    decodeBus_op_eq_of_header_eq (headerWord_header (w.extractLsb' 8 6))]

theorem exists_busRow_of_lane : ∀ o : Op, o.lane = .bus → ∃ r ∈ busRows, o = r.op := by
  intro o
  cases o <;> decide

theorem busRow_eq_of_op_eq : ∀ r ∈ busRows, ∀ q ∈ busRows, q.op = r.op → q = r := by decide

/-! ## The operands of the bus table -/

theorem decodeBus_rdBlock {w : BusWord} {idx : BitVec 3} (decoded : decodeBus w = .rdBlock idx) :
    idx = offsetBlock (busOffset w) := by
  unfold decodeBus decodeRead decodeWrite at decoded
  split_ifs at decoded
  injection decoded with index
  exact index.symm

theorem offsetBlock_busOffset (w : BusWord) : offsetBlock (busOffset w) = w.extractLsb' 8 3 := by
  refine BitVec.eq_of_getLsbD_eq fun i hi => ?_
  unfold offsetBlock busOffset
  simp [hi, show i < 4 by omega]

/-- The data byte of a write. -/
def writeData : Instr → Option Byte
  | .wrStatus d | .wrCtrl d | .wrRo _ d | .wrRsvd _ d | .wrBlock _ d => some d
  | _ => none

theorem writeData_decodeRead (off : Offset) : writeData (decodeRead off) = none := by
  unfold decodeRead
  split_ifs <;> rfl

theorem writeData_decodeWrite (off : Offset) (d : Byte) : writeData (decodeWrite off d) = some d := by
  unfold decodeWrite
  split_ifs <;> rfl

theorem eq_busData_of_writeData {w : BusWord} {d : Byte} (write : writeData (decodeBus w) = some d) :
    d = busData w := by
  unfold decodeBus at write
  split_ifs at write
  · rw [writeData_decodeWrite] at write
    exact (Option.some.inj write).symm
  · rw [writeData_decodeRead] at write
    cases write
  · cases write

/-- Settles O2: a row fits a word iff the decoder reads its operation (checked on the 64 headers), and each bus
operation has exactly one row. -/
theorem busTableIsTotalAndDisjoint : Obligations.BusTableIsTotalAndDisjoint := by
  refine ⟨fun w r row => busRow_matches_iff w row, fun w => ?unique, fun w idx decoded => ?index, fun w d write => ?data⟩
  case unique =>
    obtain ⟨r, row, op⟩ := exists_busRow_of_lane _ (decodeBus_lane w)
    refine ⟨r, row, (busRow_matches_iff w row).mpr op, fun q qRow fits => busRow_eq_of_op_eq r row q qRow ?_⟩
    rw [← (busRow_matches_iff w qRow).mp fits, op]
  case index =>
    rw [decodeBus_rdBlock decoded, offsetBlock_busOffset]
  case data =>
    have write : writeData (decodeBus w) = some d := by
      obtain h | h | ⟨_, h⟩ | ⟨_, h⟩ | ⟨_, h⟩ := write <;> rw [h] <;> rfl
    exact eq_busData_of_writeData write

end Sys2Proof.Machine
end

section
/-!
The stirrer (R110, R111, R119). A rotation moves every bit one place, so its powers are known bit by bit; it
distributes over exclusive-or, so a run of samples from s is s rotated, exclusive-or a term of the samples alone.
-/
namespace Sys2Proof.Machine

/-- R111: bit i of the result is bit i - 1 of the value, with bit 7 for bit 0. -/
theorem getLsbD_rotl8 (v : Byte) {i : Nat} (hi : i < 8) : (rotl8 v).getLsbD i = v.getLsbD ((i + 7) % 8) := by
  unfold rotl8
  cases i with
  | zero => simp
  | succ j =>
    have inRange : (j + 1 + 7) % 8 = j := by omega
    have shiftedOut : v.getLsbD (7 + (j + 1)) = false := BitVec.getLsbD_of_ge v _ (by omega)
    simp [hi, inRange, shiftedOut, BitVec.getLsbD_eq_getElem (show j < 8 by omega)]

theorem rotl8_eq_append (v : Byte) : rotl8 v = v.extractLsb' 0 7 ++ v.extractLsb' 7 1 := by
  refine BitVec.eq_of_getLsbD_eq fun i hi => ?_
  rw [getLsbD_rotl8 v hi, BitVec.getLsbD_append]
  cases i with
  | zero => simp
  | succ j =>
    have inRange : (j + 1 + 7) % 8 = j := by omega
    simp [inRange, show j < 7 by omega]

theorem getLsbD_rotl8_iterate (n : Nat) (v : Byte) {i : Nat} (hi : i < 8) :
    (rotl8^[n] v).getLsbD i = v.getLsbD ((i + 7 * n) % 8) := by
  induction n generalizing v with
  | zero => simp [Nat.mod_eq_of_lt hi]
  | succ n ih =>
    have place : ((i + 7 * n) % 8 + 7) % 8 = (i + 7 * (n + 1)) % 8 := by omega
    rw [Function.iterate_succ_apply, ih, getLsbD_rotl8 v (Nat.mod_lt _ (by decide)), place]

theorem rotl8_iterate_eight (v : Byte) : rotl8^[8] v = v := by
  refine BitVec.eq_of_getLsbD_eq fun i hi => ?_
  have fullTurn : (i + 7 * 8) % 8 = i := by omega
  rw [getLsbD_rotl8_iterate 8 v hi, fullTurn]

theorem rotl8_iterate_xor (n : Nat) (a b : Byte) : rotl8^[n] (a ^^^ b) = rotl8^[n] a ^^^ rotl8^[n] b := by
  induction n generalizing a b with
  | zero => rfl
  | succ n ih => rw [Function.iterate_succ_apply, rotl8_xor, ih, ← Function.iterate_succ_apply,
      ← Function.iterate_succ_apply]

/-- R119 for any number of samples: each is rotated once for each sample after it. -/
theorem stirAll_eq (s : Byte) (xs : List Byte) : stirAll s xs = rotl8^[xs.length] s ^^^ windowMix xs := by
  induction xs generalizing s with
  | nil => exact (BitVec.xor_zero).symm
  | cons x xs ih =>
    calc stirAll s (x :: xs)
      _ = stirAll (rotl8 s ^^^ x) xs := rfl
      _ = rotl8^[xs.length] (rotl8 s) ^^^ rotl8^[xs.length] x ^^^ windowMix xs := by rw [ih, rotl8_iterate_xor]
      _ = rotl8^[(x :: xs).length] s ^^^ windowMix (x :: xs) := BitVec.xor_assoc _ _ _

/-- R119: over a byte's eight samples the carried accumulator comes back unrotated. -/
theorem stirAll_byte (s : Byte) {xs : List Byte} (byte : xs.length = 8) : stirAll s xs = s ^^^ windowMix xs := by
  rw [stirAll_eq, byte, rotl8_iterate_eight]

/-- Settles O25: `stirAll_byte`, with the samples' term written from the last sample to the first. -/
theorem eightStirsFormula : Obligations.EightStirsFormula := by
  intro s x0 x1 x2 x3 x4 x5 x6 x7
  have samplesTerm : windowMix [x0, x1, x2, x3, x4, x5, x6, x7] =
      rotl8^[7] x0 ^^^ (rotl8^[6] x1 ^^^ (rotl8^[5] x2 ^^^ (rotl8^[4] x3 ^^^ (rotl8^[3] x4 ^^^
        (rotl8^[2] x5 ^^^ (rotl8 x6 ^^^ (x7 ^^^ 0x00#8))))))) := rfl
  rw [stirAll_byte s rfl, samplesTerm, BitVec.xor_zero]
  ac_rfl

/-- Settles O24: `rotl8` bit by bit, and its eighth power. -/
theorem rotateAndStirAsDefined : Obligations.RotateAndStirAsDefined :=
  ⟨rotl8_eq_append, rotl8_iterate_eight, rfl, fun s x => by rw [stir_eq, rotl8_eq_append]⟩

end Sys2Proof.Machine
end

section
/-!
The tick lane (R112, R113): its two operations on any state, and the cycle whose tick word carries a sample.
-/
namespace Sys2Proof.Machine

/-! ## The operations -/

theorem decodeTick_of_tick {w : TickWord} (ticked : tickBit w = true) : decodeTick w = .tick (tickSample w) :=
  if_pos ticked

theorem exec_tick_of_idle {s : State} (idle : s.collecting = false) (x : Byte) : exec (.tick x) s = .next s := by
  rw [exec, execTick, idle, if_neg Bool.false_ne_true]

theorem exec_tick_of_collecting {s : State} (running : s.collecting = true) (x : Byte) :
    exec (.tick x) s = .next (s.takeTick x) := by
  rw [exec, execTick, if_pos running]

/-- Settles O27. -/
theorem noTickHasNoEffect : Obligations.NoTickHasNoEffect :=
  ⟨fun _ idle => decodeTick_of_idle idle, fun _ => rfl⟩

/-- R112: COUNT is the ticks taken, which start over at the 64th. -/
theorem State.takeTick_count_toNat (x : Byte) (s : State) :
    (s.takeTick x).count.toNat = if s.count = 63#6 then 0 else s.count.toNat + 1 := by
  rw [State.takeTick_count]
  split
  next => rfl
  next inside => bv_omega

/-- R112: a honoured tick writes STIR, COUNT, BLOCK, READY and COLLECTING and nothing else. -/
theorem State.takeTick_eq_update (x : Byte) (s : State) :
    s.takeTick x = { s with
      stir := (s.takeTick x).stir, count := (s.takeTick x).count, block := (s.takeTick x).block
      ready := (s.takeTick x).ready, collecting := (s.takeTick x).collecting } := by
  obtain ⟨armed, req, prev, rdata, pending, cycle⟩ := State.takeTick_frame x s
  exact State.ext rfl rfl rfl rfl rfl armed req prev rdata pending cycle

/-! ## The word of a sample, and its cycle -/

/-- The tick word that presents the sample `x` (R82). -/
theorem tickWord_of_sample (x : Byte) : tickBit (0b1#1 ++ x) = true ∧ tickSample (0b1#1 ++ x) = x := by
  constructor
  · rw [tickBit, BitVec.getLsbD_append]
    rfl
  · exact BitVec.extractLsb'_append_eq_right

section TickCycle
variable (s : State) (b : BusWord) (x : Byte) (k : BtnWord)

/-- The cycle that presents the bus word `b`, the sample `x` and the button level `k`. -/
def tickCycle : Pins := ⟨true, b, 0b1#1 ++ x, k⟩

theorem tickCycle_sample_isSome : (tickCycle b x k).sample.isSome = true := by
  obtain ⟨ticked, -⟩ := tickWord_of_sample x
  rw [Pins.sample_isSome rfl]
  exact ticked

theorem step_tickCycle : ∃ t, step (s.present (tickCycle b x k)) = .next t ∧ CycleEffect (tickCycle b x k) s t :=
  ⟨_, step_present_eq s rfl, step_cycleEffect rfl (step_present_eq s rfl)⟩

variable {s b x k}

/-- R112, case (g): the tick of the cycle that writes BEGIN is the collection's first. -/
theorem step_tickCycle_of_begins (begins : (tickCycle b x k).begins = true) (first : s.count = 0#6) :
    ∃ t, step (s.present (tickCycle b x k)) = .next t ∧
      t.collecting = true ∧ t.count = 1#6 ∧ t.stir = stir s.stir x := by
  obtain ⟨t, stepped, e⟩ := step_tickCycle s b x k
  obtain ⟨-, sample⟩ := tickWord_of_sample x
  have honours : s.honoursTick (tickCycle b x k) = true :=
    (s.honoursTick_iff _).mpr ⟨tickCycle_sample_isSome b x k, .inr begins⟩
  have runs : s.runsIn (tickCycle b x k) = true := by rw [State.runsIn, begins, Bool.or_true]
  have inside : s.completesIn (tickCycle b x k) = false := by rw [State.completesIn, honours, first]; rfl
  refine ⟨t, stepped, ?_, ?_, ?_⟩
  · rw [e.collecting, runs, inside]
    rfl
  · rw [e.count, if_pos honours, first]
    rfl
  · rw [e.stir, if_pos honours]
    exact congrArg (stir s.stir) sample

/-- R112, case (h): the 64th tick leaves READY = 1, whatever the bus writes in its cycle. -/
theorem step_tickCycle_of_last (running : s.collecting = true) (last : s.count = 63#6) :
    ∃ t, step (s.present (tickCycle b x k)) = .next t ∧ t.ready = true ∧ t.collecting = false := by
  obtain ⟨t, stepped, e⟩ := step_tickCycle s b x k
  have completes : s.completesIn (tickCycle b x k) = true :=
    (s.completesIn_iff _).mpr ⟨tickCycle_sample_isSome b x k, last, .inl running⟩
  refine ⟨t, stepped, ?_, ?_⟩
  · rw [e.ready, completes, Bool.true_or]
  · rw [e.collecting, completes, Bool.not_true, Bool.and_false]

end TickCycle

/-- R61: the word that reads offset `a` is answered from the state before the cycle. -/
theorem State.busReply_read (a : Offset) (d : Byte) (s : State) :
    s.busReply (busWord 1#1 0#1 a d) = s.regRead a := by
  rw [State.busReply, busReq_busWord, busWe_busWord, busOffset_busWord]
  rfl

/-- Settles O26: the operation from the laws of `takeTick`, the cases of one cycle from its `CycleEffect`. -/
theorem tickStirsCountsAndStores : Obligations.TickStirsCountsAndStores := by
  refine ⟨fun w ticked => decodeTick_of_tick ticked, fun x s idle => exec_tick_of_idle idle x, ?honoured,
    fun s b x k begins _ first => step_tickCycle_of_begins begins first,
    fun s b x k running last => step_tickCycle_of_last running last, ?reads⟩
  case honoured =>
    intro x s running
    refine ⟨s.takeTick x, exec_tick_of_collecting running x, rfl, s.takeTick_count_toNat x,
      s.takeTick_block_get x, s.takeTick_ready x, ?_, s.takeTick_eq_update x⟩
    rw [State.takeTick_collecting, running, Bool.true_and]
  case reads =>
    intro s a x k
    refine ⟨_, step_present_eq s rfl, ?_⟩
    rw [State.afterButton_rdata, State.afterTick_rdata, State.afterBus_rdata, State.busReply_read,
      State.regRead_drive, State.regRead_advance, State.regRead_present]

end Sys2Proof.Machine
end

section
/-! A pseudo-instruction writes CTRL with one byte (R95), so its effect is that byte's commands. -/
namespace Sys2Proof.Machine

/-- R187: a write of CTRL performs the commands of its data. -/
theorem exec_decodeBus_ctrlWord (d : Byte) (s : State) :
    exec (decodeBus (busWord 1#1 1#1 0x1#4 d)) s = .next ((s.ctrlCommands d).drive 0x00#8) := by
  have decoded : decodeBus (busWord 1#1 1#1 0x1#4 d) = .wrCtrl d := by
    rw [decodeBus, busReq_busWord, busWe_busWord, busOffset_busWord, busData_busWord]
    rfl
  rw [decoded]
  rfl

theorem exec_decodeBus_pseudo (p : Pseudo) (s : State) :
    exec (decodeBus p.word) s = .next ((s.ctrlCommands p.data).drive 0x00#8) :=
  exec_decodeBus_ctrlWord p.data s

/-- Settles O15: the five words are those of begin, clrrdy, arm, disarm and clrreq, and the commands of each data byte
evaluate to one update of a flag. -/
theorem commandsAloneChangeOneFlag : Obligations.CommandsAloneChangeOneFlag := fun s =>
  ⟨exec_decodeBus_pseudo .begin s, exec_decodeBus_pseudo .clrrdy s, exec_decodeBus_pseudo .arm s,
    exec_decodeBus_pseudo .disarm s, exec_decodeBus_pseudo .clrreq s⟩

end Sys2Proof.Machine
end

section
/-!
The button arbiter (R150 to R159): its two operations on any state, the cycle of a press, and a run without ARM. In a
cycle the edge is honoured exactly if the commands leave the arbiter armed (`armedIn`), so each case is one about
`armedIn` and `firesIn`.
-/
namespace Sys2Proof.Machine

/-! ## The operations -/

/-- R151: a falling edge while armed takes the button interrupt. -/
theorem exec_btnLow_of_armedEdge {s : State} (high : s.btnPrev = true) (armed : s.btnArmed = true) :
    exec .btnLow s = .next { s with btnReq := true, btnArmed := false, btnPrev := false } := by
  rw [exec, execBtnLow, high, armed]
  rfl

/-- R151, R159: a level that is no edge, or an edge while disarmed, is only noted. -/
theorem exec_btnLow_of_not_armedEdge {s : State} (unheard : s.btnPrev = false ∨ s.btnArmed = false) :
    exec .btnLow s = .next { s with btnPrev := false } := by
  have discarded : (s.btnPrev && s.btnArmed) = false := Bool.and_eq_false_iff.mpr unheard
  rw [exec, execBtnLow, discarded]
  rfl

/-- Settles O31. -/
theorem btnHighOnlyNotesLevel : Obligations.BtnHighOnlyNotesLevel :=
  ⟨by decide, fun _ => rfl⟩

/-! ## Arming and firing in a cycle -/

theorem Pins.rstN_of_arms {p : Pins} (arms : p.arms = true) : p.rstN = true := by
  cases reset : p.rstN
  case true => rfl
  case false => simp [Pins.arms, Pins.ctrlData, reset] at arms

/-- D7: what counts as an ARM excludes a DISARM. -/
theorem Pins.disarms_of_arms {p : Pins} (arms : p.arms = true) : p.disarms = false := by
  unfold Pins.arms at arms
  unfold Pins.disarms
  cases written : p.ctrlData
  case none => rfl
  case some d => simp_all

section Cycle
variable {s t : State} {p : Pins}

theorem State.armedIn_of_arms (arms : p.arms = true) : s.armedIn p = true :=
  (s.armedIn_iff p).mpr ⟨Pins.disarms_of_arms arms, .inl arms⟩

theorem State.armedIn_of_disarms (disarms : p.disarms = true) : s.armedIn p = false := by
  rw [State.armedIn, disarms, Bool.not_true, Bool.false_and]

theorem State.armedIn_of_disarmed (disarmed : s.btnArmed = false) (noArm : p.arms = false) :
    s.armedIn p = false := by
  rw [State.armedIn, noArm, disarmed, Bool.or_false, Bool.and_false]

theorem State.firesIn_of_not_armedIn (unarmed : s.armedIn p = false) : s.firesIn p = false := by
  rw [State.firesIn, unarmed, Bool.false_and, Bool.false_and]

/-- R151: on a falling edge the arbiter fires exactly if the cycle's commands leave it armed. -/
theorem State.firesIn_of_edge (high : s.btnPrev = true) (low : p.btn = 0#1) : s.firesIn p = s.armedIn p := by
  rw [State.firesIn, high, (btnLevel_eq_false_iff _).mpr low, Bool.not_false, Bool.and_true, Bool.and_true]

theorem State.firesIn_of_no_edge (noEdge : p.btn = 1#1 ∨ s.btnPrev = false) : s.firesIn p = false := by
  rw [Bool.eq_false_iff, ne_eq, State.firesIn_iff]
  rintro ⟨-, high, low⟩
  obtain level | prev := noEdge
  · rw [level] at low
    cases low
  · rw [prev] at high
    cases high

namespace CycleEffect

/-- R156: the request is raised by a firing edge only. -/
theorem btnReq_of_not_fires (e : CycleEffect p s t) (quiet : s.firesIn p = false) (after : t.btnReq = true) :
    s.btnReq = true := by
  by_contra before
  have fires := e.btnReq_rises (Bool.eq_false_of_not_eq_true before) after
  rw [quiet] at fires
  cases fires

/-- R151: after a falling edge the arbiter is disarmed, and the edge is requested if it was armed. -/
theorem of_edge (e : CycleEffect p s t) (high : s.btnPrev = true) (low : p.btn = 0#1) :
    t.btnPrev = false ∧ t.btnArmed = false ∧ t.btnReq = (s.armedIn p || (s.btnReq && !p.clearsReq)) := by
  refine ⟨?_, ?_, ?_⟩
  · rw [e.btnPrev, (btnLevel_eq_false_iff _).mpr low]
  · rw [e.btnArmed, State.firesIn_of_edge high low, Bool.and_not_self]
  · rw [e.btnReq, State.firesIn_of_edge high low]

end CycleEffect

theorem exists_step_cycleEffect (s : State) (running : p.rstN = true) :
    ∃ t, step (s.present p) = .next t ∧ CycleEffect p s t :=
  ⟨_, step_present_eq s running, step_cycleEffect running (step_present_eq s running)⟩

/-- R260: a reset cycle leaves the reset state. -/
theorem step_present_of_reset (s : State) (inReset : p.rstN = false) :
    step (s.present p) = .next (s.present p).advance.resetBlock := by
  rw [step, runCycle, State.present_pins, inReset, if_neg Bool.false_ne_true]

end Cycle

/-- Settles O30: the operation on a state, and `CycleEffect.of_edge` in each of the three same-cycle cases. -/
theorem btnLowHonoursArmedEdge : Obligations.BtnLowHonoursArmedEdge := by
  refine ⟨by decide, fun _ high armed => exec_btnLow_of_armedEdge high armed,
    fun _ unheard => exec_btnLow_of_not_armedEdge unheard, fun s b t high => ?cycle⟩
  case cycle =>
    obtain ⟨u, stepped, e⟩ := exists_step_cycleEffect (p := ⟨true, b, t, 0#1⟩) s rfl
    obtain ⟨prev, disarmed, req⟩ := e.of_edge high rfl
    refine ⟨u, stepped, prev, disarmed, fun arms => ?_, fun disarms => ?_, fun _ enabled armed => ?_⟩
    · rw [req, State.armedIn_of_arms arms, Bool.true_or]
    · rw [req, State.armedIn_of_disarms disarms, Bool.false_or]
    · rw [req, (s.armedIn_iff _).mpr ⟨enabled, .inr armed⟩, Bool.true_or]

/-! ## Disarmed runs -/

/-- R159 for one cycle: without ARM a disarmed arbiter stays disarmed and raises no request, in a reset cycle too. -/
theorem step_keeps_disarmed {s : State} {p : Pins} (disarmed : s.btnArmed = false) (noArm : p.arms = false) :
    ∃ t, step (s.present p) = .next t ∧ t.btnArmed = false ∧ (t.btnReq = true → s.btnReq = true) := by
  cases running : p.rstN
  case false =>
    exact ⟨_, step_present_of_reset s running, rfl, fun requested => absurd requested Bool.false_ne_true⟩
  case true =>
    obtain ⟨t, stepped, e⟩ := exists_step_cycleEffect s running
    have unarmed : s.armedIn p = false := State.armedIn_of_disarmed disarmed noArm
    refine ⟨t, stepped, ?_, e.btnReq_of_not_fires (State.firesIn_of_not_armedIn unarmed)⟩
    rw [e.btnArmed, unarmed, Bool.false_and]

theorem runScript_keeps_disarmed {s : State} {ps : List Pins} (disarmed : s.btnArmed = false)
    (noArm : ∀ p ∈ ps, p.arms = false) :
    ∃ t, runScript ps s = .next t ∧ t.btnArmed = false ∧ (t.btnReq = true → s.btnReq = true) := by
  induction ps generalizing s with
  | nil => exact ⟨s, rfl, disarmed, id⟩
  | cons p ps ih =>
    obtain ⟨noArmFirst, noArmRest⟩ := List.forall_mem_cons.mp noArm
    obtain ⟨u, stepped, uDisarmed, uReq⟩ := step_keeps_disarmed disarmed noArmFirst
    obtain ⟨t, ran, tDisarmed, tReq⟩ := ih uDisarmed noArmRest
    refine ⟨t, ?_, tDisarmed, uReq ∘ tReq⟩
    rw [runScript, stepped, andThen_next, ran]

/-- R153, R159: an ARM with no edge in its own cycle arms and raises no request, whatever came before. -/
theorem step_arms_without_edge (s : State) {p : Pins} (arms : p.arms = true)
    (noEdge : p.btn = 1#1 ∨ s.btnPrev = false) :
    ∃ t, step (s.present p) = .next t ∧ (t.btnReq = true → s.btnReq = true) ∧ t.btnArmed = true := by
  obtain ⟨t, stepped, e⟩ := exists_step_cycleEffect s (Pins.rstN_of_arms arms)
  have quiet : s.firesIn p = false := State.firesIn_of_no_edge noEdge
  refine ⟨t, stepped, e.btnReq_of_not_fires quiet, ?_⟩
  rw [e.btnArmed, State.armedIn_of_arms arms, quiet]
  rfl

/-- Settles O34: the disarmed run by induction over its cycles, then the cycle of the ARM. -/
theorem disarmedEdgesAreDiscarded : Obligations.DisarmedEdgesAreDiscarded := by
  intro s ps disarmed noArm
  obtain ⟨t, ran, tDisarmed, tReq⟩ := runScript_keeps_disarmed disarmed noArm
  exact ⟨t, ran, tDisarmed, tReq, fun p arms noEdge => step_arms_without_edge t arms noEdge⟩

end Sys2Proof.Machine
end

section
/-!
Decoding a bus word from the leading bits of its pattern in R85. A word is its header B[13:8] and its data byte B[7:0];
a shorter pattern fixes the high bits of the header and leaves the low bits of the offset as the operand.
-/
namespace Sys2Proof.Machine

/-! ## The header of a pattern -/

section Header
variable {w : BusWord} {off : Offset}

/-- The header from a pattern that fixes it down to its low `n` bits. -/
theorem header_of_pattern (kind : BitVec 2) {m : Nat} (high : BitVec m) (n : Nat)
    (pattern : w.extractLsb' (8 + n) (2 + m) = kind ++ high) :
    w.extractLsb' 8 (2 + (m + n)) = kind ++ (high ++ w.extractLsb' 8 n) := by
  rw [BitVec.append_assoc', ← pattern, BitVec.extractLsb'_append_extractLsb'_eq_extractLsb' rfl]
  exact BitVec.eq_of_toNat_eq (by simp [Nat.add_assoc])

theorem eq_busWord_of_header {req we : BitVec 1} (header : w.extractLsb' 8 6 = req ++ we ++ off) :
    w = busWord req we off (w.extractLsb' 0 8) := by
  rw [busWord, ← header]
  exact (BitVec.extractLsb'_append_extractLsb' (w := 6) (len := 8)).symm

theorem decodeBus_readWord (off : Offset) (d : Byte) : decodeBus (busWord 1#1 0#1 off d) = decodeRead off := by
  rw [decodeBus, busReq_busWord, busWe_busWord, busOffset_busWord]
  rfl

theorem decodeBus_writeWord (off : Offset) (d : Byte) :
    decodeBus (busWord 1#1 1#1 off d) = decodeWrite off d := by
  rw [decodeBus, busReq_busWord, busWe_busWord, busOffset_busWord, busData_busWord]
  rfl

theorem decodeBus_of_readHeader (header : w.extractLsb' 8 6 = 1#1 ++ 0#1 ++ off) :
    decodeBus w = decodeRead off := by
  rw [eq_busWord_of_header header, decodeBus_readWord]

theorem decodeBus_of_writeHeader (header : w.extractLsb' 8 6 = 1#1 ++ 1#1 ++ off) :
    decodeBus w = decodeWrite off (w.extractLsb' 0 8) := by
  have decoded := decodeBus_writeWord off (w.extractLsb' 0 8)
  rwa [← eq_busWord_of_header header] at decoded

end Header

/-! ## The offsets that carry an operand -/

theorem decodeRead_rsvd : ∀ off : BitVec 2, decodeRead (0b01#2 ++ off) = .rdRsvd off := by decide

theorem decodeRead_block : ∀ idx : BitVec 3, decodeRead (0b1#1 ++ idx) = .rdBlock idx := by decide

theorem decodeWrite_ro (off : BitVec 1) (d : Byte) : decodeWrite (0b001#3 ++ off) d = .wrRo off d := by
  have fields : ∀ off : BitVec 1, 0b001#3 ++ off ≠ 0x0#4 ∧ 0b001#3 ++ off ≠ 0x1#4 ∧
      (0b001#3 ++ off).getLsbD 3 = false ∧ (0b001#3 ++ off).getLsbD 2 = false ∧
      offsetRo (0b001#3 ++ off) = off := by decide
  obtain ⟨ne0, ne1, bit3, bit2, operand⟩ := fields off
  rw [decodeWrite, if_neg ne0, if_neg ne1, bit3, if_neg Bool.false_ne_true, bit2, if_neg Bool.false_ne_true, operand]

theorem decodeWrite_rsvd (off : BitVec 2) (d : Byte) : decodeWrite (0b01#2 ++ off) d = .wrRsvd off d := by
  have fields : ∀ off : BitVec 2, 0b01#2 ++ off ≠ 0x0#4 ∧ 0b01#2 ++ off ≠ 0x1#4 ∧
      (0b01#2 ++ off).getLsbD 3 = false ∧ (0b01#2 ++ off).getLsbD 2 = true ∧
      offsetRsvd (0b01#2 ++ off) = off := by decide
  obtain ⟨ne0, ne1, bit3, bit2, operand⟩ := fields off
  rw [decodeWrite, if_neg ne0, if_neg ne1, bit3, if_neg Bool.false_ne_true, if_pos bit2, operand]

theorem decodeWrite_block (idx : BitVec 3) (d : Byte) : decodeWrite (0b1#1 ++ idx) d = .wrBlock idx d := by
  have fields : ∀ idx : BitVec 3, 0b1#1 ++ idx ≠ 0x0#4 ∧ 0b1#1 ++ idx ≠ 0x1#4 ∧
      (0b1#1 ++ idx).getLsbD 3 = true ∧ offsetBlock (0b1#1 ++ idx) = idx := by decide
  obtain ⟨ne0, ne1, bit3, operand⟩ := fields idx
  rw [decodeWrite, if_neg ne0, if_neg ne1, if_pos bit3, operand]

/-! ## The operations without a state element to read or write -/

/-- Settles O9. -/
theorem rdCtrlReturnsZero : Obligations.RdCtrlReturnsZero :=
  ⟨fun _ header => decodeBus_of_readHeader (off := 0x1#4) header, fun _ => rfl⟩

/-- Settles O12: the two low bits of the header are the operand. -/
theorem rdRsvdReturnsZero : Obligations.RdRsvdReturnsZero :=
  ⟨fun _ pattern => (decodeBus_of_readHeader (header_of_pattern 0b10#2 0b01#2 2 pattern)).trans (decodeRead_rsvd _),
    fun _ _ => rfl⟩

/-- Settles O16: each pattern's header is a write of an offset that `decodeWrite` reads as the ignored write. -/
theorem otherWritesAreIgnored : Obligations.OtherWritesAreIgnored :=
  ⟨fun _ header => decodeBus_of_writeHeader (off := 0x0#4) header,
    fun _ pattern =>
      (decodeBus_of_writeHeader (header_of_pattern 0b11#2 0b001#3 1 pattern)).trans (decodeWrite_ro _ _),
    fun _ pattern =>
      (decodeBus_of_writeHeader (header_of_pattern 0b11#2 0b01#2 2 pattern)).trans (decodeWrite_rsvd _ _),
    fun _ pattern =>
      (decodeBus_of_writeHeader (header_of_pattern 0b11#2 0b1#1 3 pattern)).trans (decodeWrite_block _ _),
    fun _ _ => rfl, fun _ _ _ => rfl, fun _ _ _ => rfl, fun _ _ _ => rfl⟩

/-- Settles O17. -/
theorem busIdleHasNoEffect : Obligations.BusIdleHasNoEffect :=
  ⟨fun _ idle => decodeBus_of_idle idle, fun _ => rfl⟩

end Sys2Proof.Machine
end

section
/-! The reads of COUNT (R183) and STIR (R184): the value after a collection, and its bounds. -/
namespace Sys2Proof.Machine

theorem exec_rdCount (s : State) : exec .rdCount s = .next (s.drive (s.regRead 0x2#4)) := rfl

/-- Settles O10: the byte is COUNT's value, which six bits bound and which the invariant of R29 fixes while idle. -/
theorem rdCountReturnsCount : Obligations.RdCountReturnsCount := by
  refine ⟨fun _ header => decodeBus_of_readHeader (off := 0x2#4) header, fun s =>
    ⟨_, exec_rdCount s, rfl, s.regRead_count_toNat, ?bound, fun countZero idle => ?zero⟩⟩
  case bound =>
    rw [State.drive_rdata, State.regRead_count_toNat]
    exact s.count.isLt
  case zero =>
    apply BitVec.eq_of_toNat_eq
    rw [State.drive_rdata, State.regRead_count_toNat, countZero idle]
    rfl

/-- R120: the 64th tick leaves its accumulator in BLOCK[7]. -/
theorem State.takeTick_stir_of_last {s : State} (last : s.count = 63#6) (x : Byte) :
    (s.takeTick x).stir = (s.takeTick x).block.get 7 := by
  rw [State.takeTick_block_get, if_pos (by rw [last]; rfl), State.takeTick_stir]

/-- Settles O11: STIR and BLOCK[7] hold the same byte after the 64th tick. -/
theorem rdStirReturnsStir : Obligations.RdStirReturnsStir := by
  refine ⟨fun _ header => decodeBus_of_readHeader (off := 0x3#4) header, fun _ => rfl, fun s x running last =>
    ⟨s.takeTick x, _, exec_tick_of_collecting running x, rfl, ?completed, State.takeTick_stir_of_last last x⟩⟩
  case completed =>
    rw [State.takeTick_collecting, last, beq_self_eq_true, Bool.not_true, Bool.and_false]

end Sys2Proof.Machine
end

section
/-!
The write of CTRL (R187): its commands as one update of the state, and the cycle that carries it, whose tick and button
phases run on the state that update leaves (R92).
-/
namespace Sys2Proof.Machine

theorem exec_wrCtrl (d : Byte) (s : State) :
    exec (.wrCtrl d) s = .next ((s.ctrlCommands d).drive 0x00#8) := rfl

theorem State.ctrlCommands_drive_eq_update (d : Byte) (s : State) (v : Byte) :
    (s.ctrlCommands d).drive v = { s with
      ready := if d.getLsbD 1 then false else s.ready
      collecting := if d.getLsbD 0 then true else s.collecting
      btnReq := if d.getLsbD 4 then false else s.btnReq
      btnArmed := if d.getLsbD 3 then false else if d.getLsbD 2 then true else s.btnArmed
      rdata := v } := by
  ext1
  case ready => simp [ctrlClrReady, Bool.and_comm]
  case collecting => simp [ctrlBegin, Bool.or_comm]
  case btnReq => simp [ctrlClrReq, Bool.and_comm]
  case btnArmed => simp [ctrlDisarm, ctrlArm]
  all_goals simp

/-- A command reads no `rdata`, so what the bus drove before is lost. -/
theorem State.ctrlCommands_of_drive (d : Byte) (s : State) (u v : Byte) :
    ((s.drive u).ctrlCommands d).drive v = (s.ctrlCommands d).drive v := by
  rw [State.ctrlCommands_drive_eq_update, State.ctrlCommands_drive_eq_update]
  rfl

/-- R92: the tick and button phases of a cycle that writes CTRL see the state after the commands. -/
theorem step_ctrlWrite (s : State) (d : Byte) (t : TickWord) (k : BtnWord) :
    step (s.present ⟨true, busWord 1#1 1#1 0x1#4 d, t, k⟩) =
      andThen (exec (decodeTick t) ((State.ctrlCommands d { s with cycle := s.cycle + 1 }).drive 0x00#8))
        (exec (decodeBtn k)) := by
  rw [step, runCycle, State.present_pins, if_pos rfl, runOps, Pins.ops, exec_decodeBus_ctrlWord, andThen_next,
    State.ctrlCommands_of_drive, State.present_advance]

/-- Settles O14: the commands as one update, and the phases of the cycle that writes them. -/
theorem wrCtrlPerformsCommands : Obligations.WrCtrlPerformsCommands :=
  ⟨fun _ header => decodeBus_of_writeHeader (off := 0x1#4) header,
    fun d s => congrArg Host.Outcome.next (s.ctrlCommands_drive_eq_update d 0x00#8),
    fun s d t k => ⟨_, exec_wrCtrl d _, step_ctrlWrite s d t k⟩⟩

end Sys2Proof.Machine
end

section
/-!
The reads of BLOCK (R186) and STATUS (R181) in a run: BLOCK keeps its reset value until the first BEGIN, a STATUS read
around the 64th tick, and a script to each value of STATUS.
-/
namespace Sys2Proof.Machine

/-! ## Runs -/

/-- A property that every allowed cycle keeps holds after every run of allowed cycles. -/
theorem runScript_keeps {P : State → Prop} {allowed : Pins → Prop}
    (keeps : ∀ s p, P s → allowed p → ∃ t, step (s.present p) = .next t ∧ P t)
    (ps : List Pins) (s : State) (holds : P s) (allowedAll : ∀ p ∈ ps, allowed p) :
    ∃ t, runScript ps s = .next t ∧ P t := by
  induction ps generalizing s with
  | nil => exact ⟨s, rfl, holds⟩
  | cons p ps ih =>
    obtain ⟨allowedFirst, allowedRest⟩ := List.forall_mem_cons.mp allowedAll
    obtain ⟨u, stepped, uHolds⟩ := keeps s p holds allowedFirst
    obtain ⟨t, ran, tHolds⟩ := ih u uHolds allowedRest
    refine ⟨t, ?_, tHolds⟩
    rw [runScript, stepped, andThen_next, ran]

theorem runScript_concat {ps : List Pins} {s u t : State} {p : Pins} (ran : runScript ps s = .next u)
    (stepped : step (u.present p) = .next t) : runScript (ps ++ [p]) s = .next t := by
  induction ps generalizing s with
  | nil =>
    cases ran
    rw [List.nil_append, runScript, stepped]
    rfl
  | cons q ps ih =>
    obtain ⟨v, first, rest⟩ := andThen_next_iff.mp ran
    rw [List.cons_append, runScript, first, andThen_next, ih rest]

/-- Some script leads from reset to `t`. -/
def ReachedFromReset (t : State) : Prop := ∃ ps, runScript ps State.reset = .next t

theorem ReachedFromReset.of_reset : ReachedFromReset State.reset := ⟨[], rfl⟩

theorem ReachedFromReset.of_step {s t : State} {p : Pins} (reached : ReachedFromReset s)
    (stepped : step (s.present p) = .next t) : ReachedFromReset t := by
  obtain ⟨ps, ran⟩ := reached
  exact ⟨ps ++ [p], runScript_concat ran stepped⟩

/-! ## BLOCK before any collection -/

/-- No collection has run: none runs, and BLOCK is that of reset. -/
def State.uncollected (s : State) : Prop := s.collecting = false ∧ s.block = State.reset.block

theorem step_keeps_uncollected (s : State) (p : Pins) (before : s.uncollected) (noBegin : p.begins = false) :
    ∃ t, step (s.present p) = .next t ∧ t.uncollected := by
  obtain ⟨idle, block⟩ := before
  cases running : p.rstN
  case false => exact ⟨_, step_present_of_reset s running, rfl, rfl⟩
  case true =>
    obtain ⟨t, stepped, e⟩ := exists_step_cycleEffect s running
    have runs : s.runsIn p = false := by rw [State.runsIn, idle, noBegin, Bool.or_false]
    have quiet : s.honoursTick p ≠ true := by simp [State.honoursTick, runs]
    obtain ⟨-, -, kept⟩ := e.data_eq quiet
    refine ⟨t, stepped, ?_, kept.trans block⟩
    rw [e.collecting, runs, Bool.false_and]

theorem State.blockByte_of_uncollected {s : State} (before : s.uncollected) (idx : BitVec 3) :
    s.blockByte idx = 0x00#8 := by
  obtain ⟨-, block⟩ := before
  rw [State.blockByte, block]
  exact Vector.getElem_replicate _

/-- Settles O13: without BEGIN every cycle from reset keeps BLOCK as reset leaves it. -/
theorem rdBlockReturnsByte : Obligations.RdBlockReturnsByte := by
  refine ⟨fun _ pattern => (decodeBus_of_readHeader (header_of_pattern 0b10#2 0b1#1 3 pattern)).trans
    (decodeRead_block _), fun _ _ => rfl, fun idx ps noBegin => ?uncollected⟩
  case uncollected =>
    obtain ⟨t, ran, before⟩ := runScript_keeps step_keeps_uncollected ps State.reset ⟨rfl, rfl⟩ noBegin
    exact ⟨t, ran, congrArg (fun v => Host.Outcome.next (t.drive v)) (State.blockByte_of_uncollected before idx)⟩

/-! ## STATUS around the 64th tick -/

/-- R34: bits 0 and 1 of STATUS. -/
theorem State.statusByte_getLsbD (s : State) :
    s.statusByte.getLsbD 0 = s.collecting ∧ s.statusByte.getLsbD 1 = s.ready := by
  have bits : ∀ req armed ready collecting : Bool,
      (0b0000#4 ++ BitVec.ofBool req ++ BitVec.ofBool armed ++ BitVec.ofBool ready
        ++ BitVec.ofBool collecting).getLsbD 0 = collecting ∧
      (0b0000#4 ++ BitVec.ofBool req ++ BitVec.ofBool armed ++ BitVec.ofBool ready
        ++ BitVec.ofBool collecting).getLsbD 1 = ready := by decide
  exact bits s.btnReq s.btnArmed s.ready s.collecting

/-- R61, R180: later phases keep the byte the bus phase drove from the state before the cycle. -/
theorem rdata_of_step_present {s t : State} {p : Pins} (running : p.rstN = true)
    (stepped : step (s.present p) = .next t) : t.rdata = s.busReply p.bus := by
  rw [step_present_eq s running] at stepped
  cases stepped
  rw [State.afterButton_rdata, State.afterTick_rdata, State.afterBus_rdata]
  rfl

theorem rdata_of_step_rdStatus {s t : State} {w : TickWord} {k : BtnWord}
    (stepped : step (s.present ⟨true, 0x2000#14, w, k⟩) = .next t) : t.rdata = s.statusByte :=
  (rdata_of_step_present rfl stepped).trans (s.busReply_read 0x0#4 0x00#8)

/-! ## A script to each value of STATUS -/

/-- R112: a tick of a running collection that is not the 64th. -/
theorem step_tickCycle_of_inside {s : State} (b : BusWord) (x : Byte) (k : BtnWord) (running : s.collecting = true)
    (inside : s.count ≠ 63#6) :
    ∃ t, step (s.present (tickCycle b x k)) = .next t ∧
      t.collecting = true ∧ t.count.toNat = s.count.toNat + 1 := by
  obtain ⟨t, stepped, e⟩ := step_tickCycle s b x k
  have honours : s.honoursTick (tickCycle b x k) = true :=
    (s.honoursTick_iff _).mpr ⟨tickCycle_sample_isSome b x k, .inl running⟩
  have incomplete : s.completesIn (tickCycle b x k) = false := by
    rw [State.completesIn, beq_eq_false_iff_ne.mpr inside, Bool.and_false]
  refine ⟨t, stepped, ?_, ?_⟩
  · rw [e.collecting, State.runsIn, running, incomplete]
    rfl
  · rw [e.count, if_pos honours]
    bv_omega

/-- R112: the ticks that are left complete a running collection. -/
theorem exists_reached_completed (left : Nat) {s : State} (reached : ReachedFromReset s)
    (running : s.collecting = true) (count : s.count.toNat + left = 63) :
    ∃ t, ReachedFromReset t ∧ t.ready = true ∧ t.collecting = false ∧ t.btnPrev = true := by
  induction left generalizing s with
  | zero =>
    have last : s.count = 63#6 := BitVec.eq_of_toNat_eq count
    obtain ⟨t, stepped, ready, idle⟩ :=
      step_tickCycle_of_last (b := 0x0000#14) (x := 0x00#8) (k := releaseLevel) running last
    exact ⟨t, reached.of_step stepped, ready, idle, (step_cycleEffect rfl stepped).btnPrev⟩
  | succ left ih =>
    have inside : s.count ≠ 63#6 := by bv_omega
    obtain ⟨t, stepped, running, next⟩ := step_tickCycle_of_inside 0x0000#14 0x00#8 releaseLevel running inside
    exact ih (reached.of_step stepped) running (by omega)

/-- A CTRL write in a cycle without a tick, the button released, performs the commands and no more. -/
theorem exists_step_ctrlWrite (s : State) (d : Byte) :
    ∃ t, step (s.present ⟨true, busWord 1#1 1#1 0x1#4 d, 0x000#9, releaseLevel⟩) = .next t ∧
      t.statusByte = (s.ctrlCommands d).statusByte ∧ t.collecting = (s.ctrlCommands d).collecting ∧
      t.count = s.count := by
  refine ⟨_, step_ctrlWrite s d 0x000#9 releaseLevel, ?_, ?_, ?_⟩
  · simp [State.statusByte]
  · simp
  · simp

/-- R151, R187: an ARM in the cycle of a press is fired in it, and READY and COLLECTING stay. -/
theorem exists_step_armAndPress {s : State} (high : s.btnPrev = true) :
    ∃ t, step (s.present ⟨true, Pseudo.arm.word, 0x000#9, pressLevel⟩) = .next t ∧
      t.btnReq = true ∧ t.btnArmed = false ∧ t.ready = s.ready ∧ t.collecting = s.collecting :=
  ⟨_, (step_ctrlWrite s Pseudo.arm.data 0x000#9 pressLevel).trans (exec_btnLow_of_armedEdge high rfl),
    rfl, rfl, rfl, rfl⟩

/-- A collection, and a press in the cycle of its ARM, set READY and BTN_REQ. -/
theorem exists_reached_readyRequested :
    ∃ t, ReachedFromReset t ∧ t.btnReq = true ∧ t.btnArmed = false ∧ t.ready = true ∧ t.collecting = false := by
  obtain ⟨begun, stepBegin, -, running, count⟩ := exists_step_ctrlWrite State.reset Pseudo.begin.data
  obtain ⟨done, reached, ready, idle, high⟩ :=
    exists_reached_completed 63 (ReachedFromReset.of_reset.of_step stepBegin) running (by rw [count]; rfl)
  obtain ⟨t, stepPress, req, disarmed, tReady, tCollecting⟩ := exists_step_armAndPress high
  exact ⟨t, reached.of_step stepPress, req, disarmed, tReady.trans ready, tCollecting.trans idle⟩

/-- The commands that leave the low four bits of STATUS at `v` where only READY and BTN_REQ are set. -/
def statusCommands (v : BitVec 4) : Byte :=
  0b000#3 ++ BitVec.ofBool (!v.getLsbD 3) ++ 0b0#1 ++ BitVec.ofBool (v.getLsbD 2) ++ BitVec.ofBool (!v.getLsbD 1)
    ++ BitVec.ofBool (v.getLsbD 0)

theorem statusCommands_bits : ∀ v : BitVec 4, ctrlClrReq (statusCommands v) = !v.getLsbD 3 ∧
    ctrlDisarm (statusCommands v) = false ∧ ctrlArm (statusCommands v) = v.getLsbD 2 ∧
    ctrlClrReady (statusCommands v) = !v.getLsbD 1 ∧ ctrlBegin (statusCommands v) = v.getLsbD 0 := by decide

theorem statusByte_of_bits : ∀ v : BitVec 4, 0b0000#4 ++ BitVec.ofBool (v.getLsbD 3) ++ BitVec.ofBool (v.getLsbD 2)
    ++ BitVec.ofBool (v.getLsbD 1) ++ BitVec.ofBool (v.getLsbD 0) = 0b0000#4 ++ v := by decide

theorem State.ctrlCommands_statusCommands {s : State} (req : s.btnReq = true) (disarmed : s.btnArmed = false)
    (ready : s.ready = true) (idle : s.collecting = false) (v : BitVec 4) :
    (s.ctrlCommands (statusCommands v)).statusByte = 0b0000#4 ++ v := by
  obtain ⟨clrReq, noDisarm, arm, clrReady, begins⟩ := statusCommands_bits v
  rw [← statusByte_of_bits v, State.statusByte, State.ctrlCommands_btnReq, State.ctrlCommands_btnArmed,
    State.ctrlCommands_ready, State.ctrlCommands_collecting, req, disarmed, ready, idle, clrReq, noDisarm, arm,
    clrReady, begins]
  simp

/-- Settles O8: the two reads return the flags before and after the 64th tick; each status is one CTRL write away from a
state with READY and BTN_REQ set. -/
theorem rdStatusReturnsFlags : Obligations.RdStatusReturnsFlags := by
  refine ⟨fun _ header => decodeBus_of_readHeader (off := 0x0#4) header, fun _ => rfl, ?lastTick, ?reachable⟩
  case lastTick =>
    intro s x k l running notReady last
    obtain ⟨t, ticked, ready, -⟩ := step_tickCycle_of_last (b := 0x2000#14) (x := x) (k := k) running last
    obtain ⟨u, stepped, -⟩ := exists_step_cycleEffect (p := ⟨true, 0x2000#14, 0x000#9, l⟩) t rfl
    obtain ⟨sCollecting, sReady⟩ := s.statusByte_getLsbD
    obtain ⟨-, tReady⟩ := t.statusByte_getLsbD
    refine ⟨t, u, ticked, ?_, ?_, stepped, ?_⟩
    · rw [rdata_of_step_rdStatus ticked, sCollecting, running]
    · rw [rdata_of_step_rdStatus ticked, sReady, notReady]
    · rw [rdata_of_step_rdStatus stepped, tReady, ready]
  case reachable =>
    intro v
    obtain ⟨s, reached, req, disarmed, ready, idle⟩ := exists_reached_readyRequested
    obtain ⟨t, stepped, status, -⟩ := exists_step_ctrlWrite s (statusCommands v)
    obtain ⟨ps, ran⟩ := reached.of_step stepped
    exact ⟨ps, t, ran, status.trans (State.ctrlCommands_statusCommands req disarmed ready idle v)⟩

end Sys2Proof.Machine
end

section
/-! The reset cycle (R260, R261): its elements are those of `State.reset`, and `rdata` and the outputs follow. -/
namespace Sys2Proof.Machine

@[simp] theorem State.reset_block_get (i : Fin 8) : State.reset.block.get i = 0x00#8 :=
  Vector.getElem_replicate i.isLt

theorem State.sameBlock_reset_resetBlock (s : State) : sameBlock State.reset s.resetBlock :=
  ⟨s.resetBlock_stir, s.resetBlock_count, s.resetBlock_block, s.resetBlock_ready, s.resetBlock_collecting,
    s.resetBlock_btnArmed, s.resetBlock_btnReq, s.resetBlock_btnPrev⟩

/-- Settles O38: the step is `resetBlock`, whose eight elements are those of `State.reset`; the outputs are three of its
flags. -/
theorem resetCycleLoadsResetState : Obligations.ResetCycleLoadsResetState := by
  intro s p inReset
  obtain ⟨stir, count, block, ready, collecting, armed, req, prev⟩ :=
    (s.present p).advance.sameBlock_reset_resetBlock
  refine ⟨_, step_present_of_reset s inReset, stir, count, fun i => ?blockByte, ready, collecting, armed, req, prev,
    State.resetBlock_rdata _, State.sameBlock_reset_resetBlock _, collecting, ready, req⟩
  case blockByte => rw [block, State.reset_block_get]

end Sys2Proof.Machine
end

section
/-!
Encoding against decoding (R85 to R88): the fields that `encode` writes are those the decoder reads, so each inverts the
other up to the bits an operation ignores.
-/
namespace Sys2Proof.Machine

/-! ## Decoding an encoded operation -/

theorem decodeTick_sampleWord (x : Byte) : decodeTick (0b1#1 ++ x) = .tick x := by
  obtain ⟨ticked, sample⟩ := tickWord_of_sample x
  rw [decodeTick_of_tick ticked, sample]

/-- Settles O1: a bus operation's word is a read or a write of the offset that `decodeRead` or `decodeWrite` reads as
that operation; the other two lanes have one operand, the sample. -/
theorem decodeInvertsEncode : Obligations.DecodeInvertsEncode := by
  intro i
  cases i with
  | busIdle => rfl
  | rdStatus => exact decodeBus_readWord 0x0#4 _
  | rdCtrl => exact decodeBus_readWord 0x1#4 _
  | rdCount => exact decodeBus_readWord 0x2#4 _
  | rdStir => exact decodeBus_readWord 0x3#4 _
  | rdRsvd off => exact (decodeBus_readWord _ _).trans (decodeRead_rsvd off)
  | rdBlock idx => exact (decodeBus_readWord _ _).trans (decodeRead_block idx)
  | wrStatus d => exact decodeBus_writeWord 0x0#4 d
  | wrCtrl d => exact decodeBus_writeWord 0x1#4 d
  | wrRo off d => exact (decodeBus_writeWord _ d).trans (decodeWrite_ro off d)
  | wrRsvd off d => exact (decodeBus_writeWord _ d).trans (decodeWrite_rsvd off d)
  | wrBlock idx d => exact (decodeBus_writeWord _ d).trans (decodeWrite_block idx d)
  | tick smp => exact decodeTick_sampleWord smp
  | noTick => rfl
  | btnLow => rfl
  | btnHigh => rfl

/-! ## Encoding a decoded word -/

theorem encode_decodeRead : ∀ off : Offset, encode (decodeRead off) = .bus (busWord 1#1 0#1 off 0x00#8) := by decide

/-- An offset that is not STATUS or CTRL, from the operand the decoder takes of it (R85). -/
theorem offset_of_operand : ∀ off : Offset, off ≠ 0x0#4 → off ≠ 0x1#4 →
    off = if off.getLsbD 3 then 0b1#1 ++ offsetBlock off
      else if off.getLsbD 2 then 0b01#2 ++ offsetRsvd off else 0b001#3 ++ offsetRo off := by decide

theorem encode_decodeWrite (off : Offset) (d : Byte) :
    encode (decodeWrite off d) = .bus (busWord 1#1 1#1 off d) := by
  by_cases status : off = 0x0#4
  · rw [status]; rfl
  by_cases ctrl : off = 0x1#4
  · rw [ctrl]; rfl
  have operand := offset_of_operand off status ctrl
  rw [decodeWrite, if_neg status, if_neg ctrl]
  split_ifs at operand ⊢ <;> exact congrArg (fun a => LaneWord.bus (busWord 1#1 1#1 a d)) operand.symm

theorem busCareMask_decodeRead : ∀ off : Offset, busCareMask (decodeRead off).op = 0x3F00#14 := by decide

theorem busCareMask_decodeWrite (off : Offset) (d : Byte) : busCareMask (decodeWrite off d).op = 0x3FFF#14 := by
  unfold decodeWrite
  split_ifs <;> rfl

/-- A bus word from the two bits that choose between idle, read and write (R81). -/
theorem eq_busWord_of_bits {w : BusWord} {req we : Bool} (reqBit : busReq w = req) (weBit : busWe w = we) :
    w = busWord (BitVec.ofBool req) (BitVec.ofBool we) (busOffset w) (busData w) := by
  have bit (i : Nat) : w.extractLsb' i 1 = BitVec.ofBool (w.getLsbD i) :=
    BitVec.eq_of_getLsbD_eq fun j hj => by simp [show j = 0 by omega]
  rw [← reqBit, ← weBit, busReq, busWe, ← bit, ← bit]
  exact busWord_of_fields w

/-- R88: a read ignores its data byte. -/
theorem busWord_and_headerMask (req we : BitVec 1) (off : Offset) (d : Byte) :
    busWord req we off d &&& 0x3F00#14 = busWord req we off 0x00#8 := by
  rw [and_headerMask, busWord, BitVec.extractLsb'_append_eq_left]
  rfl

theorem encode_decodeBus (w : BusWord) : encode (decodeBus w) = .bus (w &&& busCareMask (decodeBus w).op) := by
  cases req : busReq w
  case false =>
    have ignored : w &&& 0x2000#14 = 0x0000#14 :=
      (busRow_matches_iff w (r := ⟨.BUS_IDLE, 0x2000#14, 0x0000#14⟩) (by decide)).mpr
        (by rw [decodeBus_of_idle req]; rfl)
    rw [decodeBus_of_idle req]
    exact congrArg LaneWord.bus ignored.symm
  case true =>
    cases we : busWe w
    case false =>
      have word : w = busWord 1#1 0#1 (busOffset w) (busData w) :=
        eq_busWord_of_bits (req := true) (we := false) req we
      rw [word, decodeBus_readWord, encode_decodeRead, busCareMask_decodeRead, busWord_and_headerMask]
    case true =>
      have word : w = busWord 1#1 1#1 (busOffset w) (busData w) :=
        eq_busWord_of_bits (req := true) (we := true) req we
      rw [word, decodeBus_writeWord, encode_decodeWrite, busCareMask_decodeWrite]
      exact congrArg LaneWord.bus BitVec.and_allOnes.symm

/-- A tick word is its tick bit and its sample (R82). -/
theorem eq_tickWord_of_bit {w : TickWord} {ticked : Bool} (bit : tickBit w = ticked) :
    w = BitVec.ofBool ticked ++ tickSample w := by
  have high : w.extractLsb' 8 1 = BitVec.ofBool (tickBit w) :=
    BitVec.eq_of_getLsbD_eq fun j hj => by simp [tickBit, show j = 0 by omega]
  rw [← bit, ← high, tickSample]
  exact (BitVec.extractLsb'_append_extractLsb' (w := 1) (len := 8)).symm

theorem encode_decodeTick (w : TickWord) : encode (decodeTick w) = .tick (if w.getLsbD 8 then w else 0#9) := by
  change encode (decodeTick w) = .tick (if tickBit w then w else 0#9)
  cases bit : tickBit w
  case false => rw [decodeTick_of_idle bit]; rfl
  case true =>
    rw [decodeTick_of_tick bit, if_pos rfl]
    exact congrArg LaneWord.tick (eq_tickWord_of_bit bit).symm

/-- Settles O4: lane by lane; on the bus, the encoder rebuilds the header and a write's data byte. -/
theorem encodeClearsOnlyIgnoredBits : Obligations.EncodeClearsOnlyIgnoredBits :=
  ⟨encode_decodeBus, encode_decodeTick, by decide⟩

/-! ## The tick and button tables -/

theorem tickWord_and_tickMask (ticked : Bool) (x : Byte) :
    (BitVec.ofBool ticked ++ x) &&& 0x100#9 = BitVec.ofBool ticked ++ 0x00#8 :=
  calc (BitVec.ofBool ticked ++ x) &&& 0x100#9
    _ = (BitVec.ofBool ticked ++ x) &&& (BitVec.allOnes 1 ++ 0x00#8) := rfl
    _ = BitVec.ofBool ticked ++ 0x00#8 := by rw [BitVec.and_append, BitVec.and_allOnes, BitVec.and_zero]

/-- Every row of R86 looks at the tick bit only. -/
theorem tickRow_mask : ∀ r ∈ tickRows, r.mask = 0x100#9 := by decide

theorem tickRow_pattern_iff : ∀ r ∈ tickRows, ∀ ticked : Bool,
    BitVec.ofBool ticked ++ 0x00#8 = r.pattern ↔ (if ticked then Op.TICK else Op.NO_TICK) = r.op := by decide

theorem decodeTick_op (w : TickWord) : (decodeTick w).op = if tickBit w then Op.TICK else Op.NO_TICK := by
  rw [decodeTick, apply_ite Instr.op]
  rfl

theorem tickRow_matches_iff (w : TickWord) {r : DecodeRow 9} (row : r ∈ tickRows) :
    w &&& r.mask = r.pattern ↔ (decodeTick w).op = r.op := by
  have masked : w &&& r.mask = BitVec.ofBool (tickBit w) ++ 0x00#8 := by
    rw [tickRow_mask r row, ← tickWord_and_tickMask (tickBit w) (tickSample w), ← eq_tickWord_of_bit rfl]
  rw [masked, tickRow_pattern_iff r row, decodeTick_op]

theorem decodeTick_tick {w : TickWord} {x : Byte} (decoded : decodeTick w = .tick x) : x = tickSample w := by
  unfold decodeTick at decoded
  split_ifs at decoded
  injection decoded with sample
  exact sample.symm

/-- Settles O3: a tick row is chosen by the tick bit; a button word has two values. -/
theorem tickAndButtonTablesDecode : Obligations.TickAndButtonTablesDecode :=
  ⟨fun w _ row => tickRow_matches_iff w row, fun _ _ decoded => decodeTick_tick decoded, by decide⟩

/-! ## Words written out -/

/-- Settles O6: each of the nine words is closed and the decoder evaluates on it. -/
theorem sampleWordsDecode : Obligations.SampleWordsDecode :=
  ⟨rfl, rfl, rfl, rfl, rfl, rfl, rfl, rfl, rfl⟩

/-- R94: a bus word as its header's bits, its offset and its data in their places. -/
theorem busWord_eq_or (req we : BitVec 1) (off : Offset) (d : Byte) :
    busWord req we off d = busWord req we 0x0#4 0x00#8 ||| (off.setWidth 14 <<< 8) ||| d.setWidth 14 := by
  refine BitVec.eq_of_getLsbD_eq fun i hi => ?_
  rw [BitVec.getLsbD_or, BitVec.getLsbD_or, busWord_getLsbD, busWord_getLsbD]
  by_cases data : i < 8
  · simp [data, hi]
  · by_cases offset : i < 12
    · simp [data, offset, hi, BitVec.getLsbD_of_ge d i (by omega)]
    · simp [data, offset, hi, BitVec.getLsbD_of_ge off (i - 8) (by omega), BitVec.getLsbD_of_ge d i (by omega)]

/-- Settles O7: a script's words are `busWord` of their fields, and the pseudo-instructions are closed words. -/
theorem scriptWordsMatchEncodings : Obligations.ScriptWordsMatchEncodings := by
  refine ⟨fun reg => ?rd, fun reg imm => busWord_eq_or _ _ _ _, fun prev x => ?tick, by decide, rfl, rfl⟩
  case rd =>
    rw [ScriptBus.word, busWord_eq_or]
    exact BitVec.or_zero
  case tick =>
    have word : 0b1#1 ++ x = 0x100#9 ||| x.setWidth 9 := BitVec.append_def _ _
    exact congrArg (fun w => Pins.mk true 0x0000#14 w prev) word

end Sys2Proof.Machine
end

section
/-!
What a step runs (R92, R93) and what has no effect in it (R58, R90): a step is a presented cycle, and each phase with an
operation that does nothing keeps the state.
-/
namespace Sys2Proof.Machine

/-! ## Every operation and every cycle answers (R220) -/

theorem exec_answers (i : Instr) (s : State) : ∃ t, exec i s = .next t := by
  cases i <;> exact ⟨_, rfl⟩

/-- A step is the cycle that presents the pins it finds, to the state without them. -/
theorem step_eq_present (s : State) :
    step s = step (({ s with pending := s.pending.tail } : State).present s.pins) := rfl

theorem step_answers (s : State) : ∃ t, step s = .next t := by
  rw [step_eq_present]
  cases running : s.pins.rstN
  case false => exact ⟨_, step_present_of_reset _ running⟩
  case true => exact ⟨_, step_present_eq _ running⟩

/-- Settles O37. -/
theorem everyCycleCompletes : Obligations.EveryCycleCompletes := ⟨exec_answers, step_answers⟩

/-- Settles O35: the two branches of `runCycle` on the pins of the cycle. -/
theorem stepRunsTheLaneOperations : Obligations.StepRunsTheLaneOperations := by
  refine ⟨fun s running => ?run, fun s inReset => ?reset, fun s p => s.present_pins p⟩
  case run => exact if_pos running
  case reset => exact if_neg (Bool.eq_false_iff.mp inReset)

/-! ## Phases without an effect -/

/-- R90, R189: no transaction. -/
theorem State.afterBus_idle (s : State) : s.afterBus 0x0000#14 = s.drive 0x00#8 := rfl

/-- R113: no tick. -/
theorem State.afterTick_idle (s : State) : s.afterTick 0x000#9 = s := rfl

/-- R150: a level that is held is no edge. -/
theorem State.afterButton_held (s : State) : s.afterButton (BitVec.ofBool s.btnPrev) = s := by
  have level : btnLevel (BitVec.ofBool s.btnPrev) = s.btnPrev := by cases s.btnPrev <;> rfl
  rw [State.afterButton, level, Bool.not_and_self, Bool.false_and, if_neg Bool.false_ne_true]
  rfl

/-- R58, R188: a write of any offset but CTRL. -/
theorem exec_decodeBus_of_ignoredWrite {w : BusWord} (write : w.extractLsb' 12 2 = 0b11#2)
    (other : w.extractLsb' 8 4 ≠ 0x1#4) (s : State) : exec (decodeBus w) s = .next (s.drive 0x00#8) := by
  have we : busWe w = true := by
    simpa [busWe] using congrArg (fun x : BitVec 2 => x.getLsbD 0) write
  have ignored : s.regWrite (busOffset w) (busData w) = s := if_neg other
  rw [exec_decodeBus, State.afterBus, State.busReply, ignored, ite_self, we, if_neg (by simp)]

/-- R90: the commands of a CTRL byte with bits 4:0 all 0. -/
theorem State.ctrlCommands_of_empty {d : Byte} (empty : d.extractLsb' 0 5 = 0#5) (s : State) :
    s.ctrlCommands d = s := by
  have bit (i : Nat) (hi : i < 5) : d.getLsbD i = false := by
    simpa [hi] using congrArg (fun x : BitVec 5 => x.getLsbD i) empty
  rw [State.ctrlCommands, ctrlClrReady, ctrlBegin, ctrlClrReq, ctrlDisarm, ctrlArm, bit 0 (by omega),
    bit 1 (by omega), bit 2 (by omega), bit 3 (by omega), bit 4 (by omega)]
  rfl

/-- Settles O18. -/
theorem noEffectOperationsAreIdle : Obligations.NoEffectOperationsAreIdle := by
  refine ⟨fun d empty s => ?emptyWrite, fun w write other s => exec_decodeBus_of_ignoredWrite write other s,
    fun w read s => ?read⟩
  case emptyWrite =>
    rw [exec_wrCtrl, State.ctrlCommands_of_empty empty]
    rfl
  case read =>
    rw [decodeBus_of_read read]
    exact exec_decodeRead _ s

/-- R58: CTRL commands leave nothing for the same commands to do. -/
theorem State.ctrlCommands_idem (d : Byte) (s : State) :
    (((s.ctrlCommands d).drive 0x00#8).ctrlCommands d).drive 0x00#8 = (s.ctrlCommands d).drive 0x00#8 := by
  ext1
  case ready => simp
  case collecting => simp
  case btnReq => simp
  case btnArmed => cases disarm : ctrlDisarm d <;> cases arm : ctrlArm d <;> simp [disarm, arm]
  all_goals simp

/-- Settles O20. -/
theorem writesAreIdempotent : Obligations.WritesAreIdempotent := by
  refine ⟨fun d s => ⟨_, exec_wrCtrl d s, ?again⟩, fun w write other s =>
    ⟨_, exec_decodeBus_of_ignoredWrite write other s, rfl, rfl, rfl, rfl, rfl, rfl, rfl, rfl⟩⟩
  case again => rw [exec_wrCtrl, State.ctrlCommands_idem]

/-! ## A placed word -/

@[simp] theorem State.afterBus_btnPrev (w : BusWord) (s : State) : (s.afterBus w).btnPrev = s.btnPrev := by
  unfold State.afterBus State.regWrite
  split_ifs <;> simp

/-- The state on which the phases of a presented cycle run. -/
def State.cycleStart (s : State) : State := { s with rdata := 0x00#8, cycle := s.cycle + 1 }

@[simp] theorem State.cycleStart_btnPrev (s : State) : s.cycleStart.btnPrev = s.btnPrev := rfl

theorem step_present_phases_eq (s : State) {b : BusWord} {w : TickWord} {k : BtnWord} :
    step (s.present ⟨true, b, w, k⟩) = .next (((s.cycleStart.afterBus b).afterTick w).afterButton k) :=
  step_present_eq s rfl

theorem State.withFetchWord_eq_present {s : State} {nbits w : Nat} {lane : LaneWord}
    (placed : laneWordOf nbits w = some lane) :
    s.withFetchWord nbits w = ({ s with pending := s.pending.tail } : State).present (laneCycle s.btnPrev lane) := by
  rw [State.withFetchWord, State.placeWord, placed]
  rfl

/-- The cycle of one lane's word is the phase of that lane (log entry 5). -/
theorem step_laneCycle (s : State) (lane : LaneWord) :
    step (s.present (laneCycle s.btnPrev lane)) = exec (decode lane) s.cycleStart := by
  cases lane with
  | bus b =>
    have held : (s.cycleStart.afterBus b).afterButton (BitVec.ofBool s.btnPrev) = s.cycleStart.afterBus b := by
      simpa using (s.cycleStart.afterBus b).afterButton_held
    rw [laneCycle, step_present_phases_eq, State.afterTick_idle, held, decode, exec_decodeBus]
  | tick w =>
    have held : (s.cycleStart.afterTick w).afterButton (BitVec.ofBool s.btnPrev) = s.cycleStart.afterTick w := by
      simpa using (s.cycleStart.afterTick w).afterButton_held
    rw [laneCycle, step_present_phases_eq, State.afterBus_idle]
    exact (congrArg Host.Outcome.next held).trans (exec_decodeTick w _).symm
  | btn k =>
    rw [laneCycle, step_present_phases_eq, State.afterTick_idle, State.afterBus_idle]
    exact (exec_decodeBtn k _).symm

/-- Settles O36. -/
theorem placedWordRunsNext : Obligations.PlacedWordRunsNext := by
  intro s nbits w i decoded
  obtain ⟨lane, placed, rfl⟩ := Option.map_eq_some_iff.mp decoded
  rw [State.withFetchWord_eq_present placed]
  exact step_laneCycle { s with pending := s.pending.tail } lane

/-! ## The tick and button phases commute -/

@[simp] theorem State.afterTick_pending (w : TickWord) (s : State) : (s.afterTick w).pending = s.pending := by
  obtain ⟨-, -, -, -, kept, -⟩ := State.takeTick_frame (tickSample w) s
  rw [State.afterTick, apply_ite State.pending, kept, ite_self]

@[simp] theorem State.afterTick_cycle (w : TickWord) (s : State) : (s.afterTick w).cycle = s.cycle := by
  obtain ⟨-, -, -, -, -, kept⟩ := State.takeTick_frame (tickSample w) s
  rw [State.afterTick, apply_ite State.cycle, kept, ite_self]

@[simp] theorem State.afterButton_pending (k : BtnWord) (s : State) : (s.afterButton k).pending = s.pending := by
  unfold State.afterButton
  split <;> rfl

@[simp] theorem State.afterButton_cycle (k : BtnWord) (s : State) : (s.afterButton k).cycle = s.cycle := by
  unfold State.afterButton
  split <;> rfl

theorem State.afterTick_afterButton (w : TickWord) (k : BtnWord) (s : State) :
    (s.afterTick w).afterButton k = (s.afterButton k).afterTick w := by
  ext1
  case block =>
    refine Vector.ext fun i hi => ?_
    change ((s.afterTick w).afterButton k).block.get ⟨i, hi⟩ = ((s.afterButton k).afterTick w).block.get ⟨i, hi⟩
    simp
  all_goals simp

/-- Settles O41. -/
theorem tickAndButtonPhasesCommute : Obligations.TickAndButtonPhasesCommute := by
  intro w k s
  rw [exec_decodeTick, exec_decodeBtn, andThen_next, andThen_next, exec_decodeBtn, exec_decodeTick,
    State.afterTick_afterButton]

end Sys2Proof.Machine
end

section
/-!
The transitions of the collector (R116) and of the arbiter (R156), and the invariants every step keeps (R29, R112): all
read off `CycleEffect`, which fixes the eight elements after a cycle.
-/
namespace Sys2Proof.Machine

/-! ## One cycle -/

/-- Settles O39. -/
theorem collectorTransitions : Obligations.CollectorTransitions := by
  intro s p running
  obtain ⟨t, stepped, e⟩ := exists_step_cycleEffect s running
  exact ⟨t, stepped, e.collecting, e.ready, e.count⟩

theorem btnLevel_eq_beq : ∀ k : BtnWord, btnLevel k = (k == 1#1) ∧ (!btnLevel k) = (k == 0#1) := by decide

/-- Settles O32. -/
theorem arbiterTransitions : Obligations.ArbiterTransitions := by
  intro s p running
  obtain ⟨t, stepped, e⟩ := exists_step_cycleEffect s running
  obtain ⟨released, pressed⟩ := btnLevel_eq_beq p.btn
  refine ⟨t, stepped, ?armed, ?req, e.btnPrev.trans released⟩
  case armed =>
    rw [← pressed]
    exact e.btnArmed
  case req =>
    rw [← pressed]
    exact e.btnReq

/-! ## What a cycle's result depends on -/

theorem sameBlock.eq_update {s s' : State} (same : sameBlock s s') :
    s' = { s with rdata := s'.rdata, pending := s'.pending, cycle := s'.cycle } := by
  obtain ⟨stir, count, block, ready, collecting, armed, req, prev⟩ := same
  exact State.ext stir count block ready collecting armed req prev rfl rfl rfl

theorem sameBlock_of_pending (s : State) (ps : List Pins) : sameBlock s { s with pending := ps } :=
  ⟨rfl, rfl, rfl, rfl, rfl, rfl, rfl, rfl⟩

/-- The register map reads the eight elements only (R59). -/
theorem sameBlock.regRead_eq {s s' : State} (same : sameBlock s s') (a : Offset) : s'.regRead a = s.regRead a := by
  rw [same.eq_update]
  rfl

theorem sameBlock.busReply_eq {s s' : State} (same : sameBlock s s') (w : BusWord) :
    s'.busReply w = s.busReply w := by
  rw [State.busReply, State.busReply, same.regRead_eq]

/-- A cycle's effect is one on the eight elements. -/
theorem sameBlock.cycleEffect {s s' t : State} {p : Pins} (same : sameBlock s s') (e : CycleEffect p s' t) :
    CycleEffect p s t := by
  rw [same.eq_update] at e
  exact ⟨e.stir, e.count, e.block, e.ready, e.collecting, e.btnArmed, e.btnReq, e.btnPrev⟩

/-- The elements before a cycle and its pins fix those after it (R119). -/
theorem CycleEffect.determines {s t t' : State} {p : Pins} (e : CycleEffect p s t) (e' : CycleEffect p s t') :
    sameBlock t t' :=
  ⟨e'.stir.trans e.stir.symm, e'.count.trans e.count.symm,
    Vector.ext fun i hi => (e'.block ⟨i, hi⟩).trans (e.block ⟨i, hi⟩).symm, e'.ready.trans e.ready.symm,
    e'.collecting.trans e.collecting.symm, e'.btnArmed.trans e.btnArmed.symm, e'.btnReq.trans e.btnReq.symm,
    e'.btnPrev.trans e.btnPrev.symm⟩

/-- Settles O42: a reset cycle leaves fixed elements; any other has the same `CycleEffect` from both states. -/
theorem cycleDependsOnBlockAndLanesOnly : Obligations.CycleDependsOnBlockAndLanesOnly := by
  intro s s' t p same stepped
  cases running : p.rstN
  case false =>
    rw [step_present_of_reset s running] at stepped
    cases stepped
    exact ⟨_, step_present_of_reset s' running, ⟨rfl, rfl, rfl, rfl, rfl, rfl, rfl, rfl⟩, rfl⟩
  case true =>
    obtain ⟨t', stepped', e'⟩ := exists_step_cycleEffect s' running
    refine ⟨t', stepped', (step_cycleEffect running stepped).determines (same.cycleEffect e'), ?_⟩
    rw [rdata_of_step_present running stepped, rdata_of_step_present running stepped', same.busReply_eq]

/-! ## Invariants -/

/-- What a step does to the eight elements: a reset cycle, or the cycle of its pins (R92, R260). -/
theorem step_reset_or_cycleEffect {s t : State} (stepped : step s = .next t) :
    sameBlock State.reset t ∨ CycleEffect s.pins s t := by
  rw [step_eq_present] at stepped
  cases running : s.pins.rstN
  case false =>
    rw [step_present_of_reset _ running] at stepped
    cases stepped
    exact .inl (State.sameBlock_reset_resetBlock _)
  case true => exact .inr ((sameBlock_of_pending s _).cycleEffect (step_cycleEffect running stepped))

/-- A property of the eight elements that the reset state has and that `CycleEffect` keeps is kept by every step. -/
theorem step_keeps {P : State → Prop} (elements : ∀ {s t}, sameBlock s t → P s → P t) (atReset : P State.reset)
    (cycle : ∀ {s t p}, CycleEffect p s t → P s → P t) {s t : State} (before : P s) (stepped : step s = .next t) :
    P t := by
  obtain reset | e := step_reset_or_cycleEffect stepped
  · exact elements reset atReset
  · exact cycle e before

/-- Settles O43. -/
theorem idleCountIsZeroAtReset : Obligations.IdleCountIsZeroAtReset := fun _ => rfl

/-- R29: COUNT leaves 0 by a honoured tick only, and the tick that ends a collection brings it back to 0. -/
theorem CycleEffect.keeps_idleCountZero {s t : State} {p : Pins} (e : CycleEffect p s t) (zero : s.idleCountZero) :
    t.idleCountZero := by
  intro idle
  rw [e.collecting] at idle
  cases completes : s.completesIn p
  case true =>
    obtain ⟨ticked, last, source⟩ := (s.completesIn_iff p).mp completes
    rw [e.count, if_pos ((s.honoursTick_iff p).mpr ⟨ticked, source⟩), last]
    rfl
  case false =>
    have stopped : s.runsIn p = false := by simpa [completes] using idle
    obtain ⟨notCollecting, -⟩ := Bool.or_eq_false_iff.mp stopped
    rw [e.count, State.honoursTick, stopped, if_neg (by simp)]
    exact zero notCollecting

/-- Settles O44: `CycleEffect.keeps_idleCountZero` in a cycle that is no reset cycle. -/
theorem idleCountIsZeroKept : Obligations.IdleCountIsZeroKept := fun _ _ before stepped =>
  step_keeps (P := State.idleCountZero)
    (fun same zero => by
      rw [same.eq_update]
      exact zero)
    (fun _ => rfl) CycleEffect.keeps_idleCountZero before stepped

/-- Settles O45. -/
theorem boundaryByteIsStirAtReset : Obligations.BoundaryByteIsStirAtReset := fun _ => rfl

/-- R112: the tick that reaches a boundary writes its accumulator to the boundary's byte. -/
theorem CycleEffect.keeps_stirAtBoundary {s t : State} {p : Pins} (e : CycleEffect p s t)
    (before : s.stirAtBoundary) : t.stirAtBoundary := by
  intro boundary
  by_cases honours : s.honoursTick p = true
  case pos =>
    have count : t.count = s.count + 1#6 := by rw [e.count, if_pos honours]
    have written := e.block (BitVec.ofNat 3 (t.count.toNat / 8 + 7)).toFin
    have index : (BitVec.ofNat 3 (t.count.toNat / 8 + 7)).toFin.val = (t.count.toNat / 8 + 7) % 8 := rfl
    have wraps : t.count.toNat = (s.count.toNat + 1) % 64 := by rw [count]; rfl
    have bound := s.count.isLt
    have reached : s.count.toNat + 1 = 8 * ((BitVec.ofNat 3 (t.count.toNat / 8 + 7)).toFin.val + 1) := by omega
    rw [if_pos ⟨honours, reached⟩] at written
    rw [e.stir, if_pos honours]
    exact written.symm
  case neg =>
    obtain ⟨stir, count, block⟩ := e.data_eq honours
    rw [stir, count, State.blockByte, block]
    exact before (count ▸ boundary)

/-- Settles O46: `CycleEffect.keeps_stirAtBoundary` in a cycle that is no reset cycle. -/
theorem boundaryByteIsStirKept : Obligations.BoundaryByteIsStirKept := fun _ _ before stepped =>
  step_keeps (P := State.stirAtBoundary)
    (fun same boundary => by
      rw [same.eq_update]
      exact boundary)
    (fun _ => rfl) CycleEffect.keeps_stirAtBoundary before stepped

end Sys2Proof.Machine
end

section
/-!
Runs of cycles: what every cycle of a run keeps (R63, R113, R118, R267), what adds up over it (R191, R271) and what
happens in it at most once (R157).
-/
namespace Sys2Proof.Machine

/-! ## Events that do not come -/

section Events
variable {s t : State} {p : Pins}

theorem State.runsIn_of_idle (idle : s.collecting = false) (noBegin : p.begins = false) : s.runsIn p = false := by
  rw [State.runsIn, idle, noBegin, Bool.or_false]

theorem State.honoursTick_of_not_runs (stopped : s.runsIn p = false) : s.honoursTick p = false := by
  rw [State.honoursTick, stopped, Bool.false_and]

theorem State.honoursTick_of_no_sample (quiet : p.sample = none) : s.honoursTick p = false := by
  rw [State.honoursTick, quiet, Option.isSome_none, Bool.and_false]

theorem State.completesIn_of_not_honours (quiet : s.honoursTick p = false) : s.completesIn p = false := by
  rw [State.completesIn, quiet, Bool.false_and]

/-- R114: without a BEGIN an idle collector stays idle. -/
theorem CycleEffect.collecting_of_idle (e : CycleEffect p s t) (idle : s.collecting = false)
    (noBegin : p.begins = false) : t.collecting = false := by
  rw [e.collecting, State.runsIn_of_idle idle noBegin, Bool.false_and]

end Events

/-! ## What a run keeps -/

/-- STIR, COUNT and BLOCK of `t` are those of `s`. -/
def sameData (s t : State) : Prop := t.stir = s.stir ∧ t.count = s.count ∧ t.block = s.block

theorem CycleEffect.sameData_of_not_honours {r s t : State} {p : Pins} (e : CycleEffect p s t) (data : sameData r s)
    (quiet : s.honoursTick p = false) : sameData r t := by
  obtain ⟨stir, count, block⟩ := data
  obtain ⟨stir', count', block'⟩ := e.data_eq (Bool.eq_false_iff.mp quiet)
  exact ⟨stir'.trans stir, count'.trans count, block'.trans block⟩

/-- A collection of `s` has waited until `t`. -/
def waitsSince (s t : State) : Prop := sameData s t ∧ (s.collecting = true → t.collecting = true)

theorem step_keeps_waitsSince (s : State) (t : State) (p : Pins) (before : waitsSince s t)
    (quiet : p.rstN = true ∧ p.sample = none) : ∃ u, step (t.present p) = .next u ∧ waitsSince s u := by
  obtain ⟨kept, waits⟩ := before
  obtain ⟨running, noSample⟩ := quiet
  obtain ⟨u, stepped, e⟩ := exists_step_cycleEffect t running
  have discarded : t.honoursTick p = false := State.honoursTick_of_no_sample noSample
  refine ⟨u, stepped, e.sameData_of_not_honours kept discarded, fun collecting => ?_⟩
  rw [e.collecting, State.completesIn_of_not_honours discarded, State.runsIn, waits collecting]
  rfl

/-- Settles O28: a cycle without a tick honours none, so it keeps the data and completes nothing. -/
theorem collectionWaitsWithoutTicks : Obligations.CollectionWaitsWithoutTicks := by
  intro s ps quiet
  obtain ⟨t, ran, ⟨stir, count, block⟩, waits⟩ :=
    runScript_keeps (step_keeps_waitsSince s) ps s ⟨⟨rfl, rfl, rfl⟩, id⟩ quiet
  exact ⟨t, ran, stir, count, block, waits⟩

/-- R59: every register but STATUS shows STIR, COUNT and BLOCK only. -/
theorem sameData.regRead_eq {s t : State} (data : sameData s t) {a : Offset} (notStatus : a ≠ 0x0#4) :
    t.regRead a = s.regRead a := by
  obtain ⟨stir, count, block⟩ := data
  rw [State.regRead, State.regRead, if_neg notStatus, if_neg notStatus, stir, count, State.blockByte,
    State.blockByte, block]

/-- No collection has run between `s` and `t`. -/
def idleSince (s t : State) : Prop := t.collecting = false ∧ sameData s t

theorem step_keeps_idleSince (s : State) (t : State) (p : Pins) (before : idleSince s t)
    (allowed : p.rstN = true ∧ p.begins = false) : ∃ u, step (t.present p) = .next u ∧ idleSince s u := by
  obtain ⟨idle, kept⟩ := before
  obtain ⟨running, noBegin⟩ := allowed
  obtain ⟨u, stepped, e⟩ := exists_step_cycleEffect t running
  have discarded : t.honoursTick p = false := State.honoursTick_of_not_runs (State.runsIn_of_idle idle noBegin)
  exact ⟨u, stepped, e.collecting_of_idle idle noBegin, e.sameData_of_not_honours kept discarded⟩

/-- Settles O49: while idle and without BEGIN no tick is honoured. -/
theorem handoffKeepsBlockUntilBegin : Obligations.HandoffKeepsBlockUntilBegin := by
  intro s ps idle allowed
  obtain ⟨t, ran, tIdle, kept⟩ := runScript_keeps (step_keeps_idleSince s) ps s ⟨idle, rfl, rfl, rfl⟩ allowed
  have ⟨stir, count, block⟩ := kept
  exact ⟨t, ran, tIdle, stir, count, block, fun _ => kept.regRead_eq⟩

/-! ## Stale READY (R267) -/

/-- READY becomes 1 only as COLLECTING becomes 0, so a stale READY comes from a BEGIN that does not clear it. -/
theorem CycleEffect.keeps_noStaleReady {s t : State} {p : Pins} (e : CycleEffect p s t) (fresh : s.noStaleReady)
    (clears : p.begins = true → p.clearsReady = true) : t.noStaleReady := by
  rintro ⟨collecting, ready⟩
  rw [e.collecting, Bool.and_eq_true, Bool.not_eq_true'] at collecting
  obtain ⟨runs, inside⟩ := collecting
  rw [e.ready, inside, Bool.false_or, Bool.and_eq_true, Bool.not_eq_true'] at ready
  obtain ⟨wasReady, notCleared⟩ := ready
  obtain wasCollecting | begins := Bool.or_eq_true_iff.mp runs
  · exact fresh ⟨wasCollecting, wasReady⟩
  · rw [clears begins] at notCleared
    cases notCleared

theorem step_keeps_noStaleReady (s : State) (p : Pins) (fresh : s.noStaleReady)
    (clears : p.begins = true → p.clearsReady = true) :
    ∃ t, step (s.present p) = .next t ∧ t.noStaleReady := by
  cases running : p.rstN
  case false => exact ⟨_, step_present_of_reset s running, fun stale => absurd stale.1 Bool.false_ne_true⟩
  case true =>
    obtain ⟨t, stepped, e⟩ := exists_step_cycleEffect s running
    exact ⟨t, stepped, e.keeps_noStaleReady fresh clears⟩

/-- Settles O51. -/
theorem startAvoidsStaleReady : Obligations.StartAvoidsStaleReady := by
  refine ⟨fun s t ps fresh clears ran => ?run, fun s k ready => ?beginAlone⟩
  case run =>
    obtain ⟨u, ran', uFresh⟩ := runScript_keeps step_keeps_noStaleReady ps s fresh clears
    rw [ran] at ran'
    cases ran'
    exact uFresh
  case beginAlone =>
    obtain ⟨t, stepped, e⟩ := exists_step_cycleEffect (p := ⟨true, 0x3101#14, 0x000#9, k⟩) s rfl
    have flags : ∀ k : BtnWord, (Pins.mk true 0x3101#14 0x000#9 k).begins = true ∧
        (Pins.mk true 0x3101#14 0x000#9 k).clearsReady = false ∧
        (Pins.mk true 0x3101#14 0x000#9 k).sample = none := by decide
    obtain ⟨begins, keepsReady, noSample⟩ := flags k
    have inside : s.completesIn ⟨true, 0x3101#14, 0x000#9, k⟩ = false :=
      State.completesIn_of_not_honours (State.honoursTick_of_no_sample noSample)
    refine ⟨t, stepped, fun fresh => fresh ⟨?_, ?_⟩⟩
    · rw [e.collecting, State.runsIn, begins, inside, Bool.or_true]
      rfl
    · rw [e.ready, keepsReady, ready, inside]
      rfl

/-! ## Counting ticks (R191, R271) -/

theorem samples_cons_length (p : Pins) (ps : List Pins) :
    (samples (p :: ps)).length = (if p.sample.isSome then 1 else 0) + (samples ps).length := by
  unfold samples
  cases sampled : p.sample <;> simp [sampled, Nat.add_comm]

/-- R112: a running collection that the cycle does not complete counts the cycle's tick. -/
theorem CycleEffect.counts {s t : State} {p : Pins} (e : CycleEffect p s t) (collecting : s.collecting = true)
    (room : s.count.toNat + (if p.sample.isSome then 1 else 0) < 64) :
    t.collecting = true ∧ t.count.toNat = s.count.toNat + if p.sample.isSome then 1 else 0 := by
  have runs : s.runsIn p = true := by rw [State.runsIn, collecting, Bool.true_or]
  have honours : s.honoursTick p = p.sample.isSome := by rw [State.honoursTick, runs, Bool.true_and]
  rw [e.collecting, e.count, State.completesIn, honours, runs]
  cases ticked : p.sample.isSome
  case false => exact ⟨rfl, rfl⟩
  case true =>
    rw [ticked, if_pos rfl] at room
    have inside : s.count ≠ 63#6 := by bv_omega
    rw [beq_eq_false_iff_ne.mpr inside, if_pos rfl, if_pos rfl]
    exact ⟨rfl, by bv_omega⟩

theorem runScript_counts (ps : List Pins) {s : State} (collecting : s.collecting = true)
    (running : ∀ p ∈ ps, p.rstN = true) (room : s.count.toNat + (samples ps).length < 64) :
    ∃ t, runScript ps s = .next t ∧ t.count.toNat = s.count.toNat + (samples ps).length ∧ t.collecting = true := by
  induction ps generalizing s with
  | nil => exact ⟨s, rfl, rfl, collecting⟩
  | cons p ps ih =>
    obtain ⟨runningFirst, runningRest⟩ := List.forall_mem_cons.mp running
    rw [samples_cons_length] at room ⊢
    obtain ⟨u, stepped, e⟩ := exists_step_cycleEffect s runningFirst
    obtain ⟨uCollecting, uCount⟩ := e.counts collecting (by omega)
    obtain ⟨t, ran, tCount, tCollecting⟩ := ih uCollecting runningRest (by omega)
    refine ⟨t, ?_, by omega, tCollecting⟩
    rw [runScript, stepped, andThen_next, ran]

theorem samples_replicate_tickCycle (n : Nat) (x : Byte) (b : BusWord) (k : BtnWord) :
    (samples (List.replicate n (tickCycle b x k))).length = n := by
  induction n with
  | zero => rfl
  | succ n ih => rw [List.replicate_succ, samples_cons_length, tickCycle_sample_isSome, ih, if_pos rfl, Nat.add_comm]

/-- Settles O29. -/
theorem everyTickCycleCounts : Obligations.EveryTickCycleCounts := by
  refine ⟨fun s ps firings collecting running pulses room => ?counts, samples_replicate_tickCycle⟩
  case counts =>
    obtain rfl : (samples ps).length = firings := pulses
    exact runScript_counts ps collecting running room

/-! ## One request for each arming (R157) -/

theorem reqRises_cons {s t : State} {p : Pins} (stepped : step (s.present p) = .next t) (ps : List Pins) :
    reqRises (p :: ps) s = (if !s.btnReq && t.btnReq then 1 else 0) + reqRises ps t := by
  rw [reqRises, stepped]

theorem reqRises_of_disarmed {s : State} {ps : List Pins} (disarmed : s.btnArmed = false)
    (noArm : ∀ p ∈ ps, p.arms = false) : reqRises ps s = 0 := by
  induction ps generalizing s with
  | nil => rfl
  | cons p ps ih =>
    obtain ⟨noArmFirst, noArmRest⟩ := List.forall_mem_cons.mp noArm
    obtain ⟨t, stepped, tDisarmed, tReq⟩ := step_keeps_disarmed disarmed noArmFirst
    have noRise : (!s.btnReq && t.btnReq) = false := by
      rw [Bool.and_eq_false_imp, Bool.not_eq_true']
      exact fun before => Bool.eq_false_iff.mpr fun after => Bool.false_ne_true (before.symm.trans (tReq after))
    rw [reqRises_cons stepped, noRise, ih tDisarmed noArmRest]
    rfl

/-- R151, R156: a request raised leaves the arbiter disarmed. -/
theorem disarmed_of_rise {s t : State} {p : Pins} (stepped : step (s.present p) = .next t)
    (before : s.btnReq = false) (after : t.btnReq = true) : t.btnArmed = false := by
  cases running : p.rstN
  case false =>
    rw [step_present_of_reset s running] at stepped
    cases stepped
    rfl
  case true =>
    have e := step_cycleEffect running stepped
    rw [e.btnArmed, e.btnReq_rises before after, Bool.not_true, Bool.and_false]

/-- After a request the arbiter is disarmed, so a run in which only the first cycle may arm raises no second one. -/
theorem reqRises_le_one {ps : List Pins} (s : State) (noArm : ∀ q ∈ ps.tail, q.arms = false) :
    reqRises ps s ≤ 1 := by
  induction ps generalizing s with
  | nil => exact Nat.zero_le 1
  | cons p ps ih =>
    rw [List.tail_cons] at noArm
    obtain ⟨t, stepped⟩ := step_answers (s.present p)
    rw [reqRises_cons stepped]
    split
    next rise =>
      rw [Bool.and_eq_true, Bool.not_eq_true'] at rise
      obtain ⟨before, after⟩ := rise
      rw [reqRises_of_disarmed (disarmed_of_rise stepped before after) noArm]
    next =>
      rw [Nat.zero_add]
      exact ih t fun q later => noArm q (List.mem_of_mem_tail later)

/-- Settles O33. -/
theorem oneRequestPerArming : Obligations.OneRequestPerArming := fun s _ _ noArm => reqRises_le_one s noArm

end Sys2Proof.Machine
end

section
/-!
A collection from its BEGIN on (R117, R118, R120). `Collected` says what the collector's elements are after the samples
taken so far; the phases of a cycle keep it, and a run of 64 samples ends with the chain of the eight windows.
-/
namespace Sys2Proof.Machine

/-! ## Progress of a collection -/

/-- A collection that began with STIR and BLOCK as in `s` and READY at `ready`, with samples `xs` taken, is at `t`. -/
structure Collected (s : State) (ready : Bool) (xs : List Byte) (t : State) : Prop where
  stir : t.stir = stirAll s.stir xs
  block : ∀ k : Fin 8, t.block.get k =
    if 8 * (k.val + 1) ≤ xs.length then stirAll s.stir (xs.take (8 * (k.val + 1))) else s.block.get k
  collecting : t.collecting = decide (xs.length < 64)
  count : t.count.toNat = if xs.length < 64 then xs.length else 0
  ready : t.ready = if xs.length < 64 then ready else true

theorem stirAll_concat (s : Byte) (xs : List Byte) (x : Byte) : stirAll s (xs ++ [x]) = stir (stirAll s xs) x := by
  rw [stirAll, List.foldl_append]
  rfl

/-- R112: a honoured tick is the collection's next sample. -/
theorem Collected.takeTick {s t : State} {ready : Bool} {xs : List Byte} (c : Collected s ready xs t)
    (short : xs.length < 64) (x : Byte) : Collected s ready (xs ++ [x]) (t.takeTick x) := by
  have count : t.count.toNat = xs.length := by rw [c.count, if_pos short]
  have length : (xs ++ [x]).length = xs.length + 1 := List.length_append
  have last : t.count = 63#6 ↔ ¬ (xs ++ [x]).length < 64 := by
    rw [← BitVec.toNat_inj, count, length]
    change xs.length = 63 ↔ _
    omega
  have inside : (t.count == 63#6) = !decide ((xs ++ [x]).length < 64) := by
    rw [Bool.eq_iff_iff, beq_iff_eq, last, Bool.not_eq_true', decide_eq_false_iff_not]
  constructor
  case stir => rw [State.takeTick_stir, c.stir, stirAll_concat]
  case block =>
    intro k
    rw [State.takeTick_block_get, count, c.block, c.stir, length]
    obtain before | now | later := Nat.lt_trichotomy (8 * (k.val + 1)) (xs.length + 1)
    · rw [if_neg (by omega), if_pos (by omega), if_pos (by omega), List.take_append_of_le_length (by omega)]
    · rw [if_pos now.symm, if_pos (by omega), List.take_of_length_le (by omega), stirAll_concat]
    · rw [if_neg (by omega), if_neg (by omega), if_neg (by omega)]
  case collecting =>
    rw [State.takeTick_collecting, c.collecting, decide_eq_true short, Bool.true_and, inside, Bool.not_not]
  case count =>
    rw [State.takeTick_count_toNat, if_congr last rfl rfl, ite_not, count, length]
  case ready =>
    rw [State.takeTick_ready, c.ready, if_pos short, inside]
    by_cases more : (xs ++ [x]).length < 64
    · rw [decide_eq_true more, if_pos more, Bool.not_true, Bool.or_false]
    · rw [decide_eq_false more, if_neg more, Bool.not_false, Bool.or_true]

/-- The collection sees the first 64 samples of `zs`. -/
def CollectedOf (s : State) (ready : Bool) (zs : List Byte) (t : State) : Prop :=
  Collected s ready (zs.take 64) t

/-- The tick phase takes the cycle's sample while the collection runs and discards it afterwards. -/
theorem CollectedOf.afterTick {s t : State} {ready : Bool} {zs : List Byte} (c : CollectedOf s ready zs t)
    (p : Pins) (running : p.rstN = true) :
    CollectedOf s ready (zs ++ p.sample.toList) (t.afterTick p.tick) := by
  have collecting : t.collecting = decide ((zs.take 64).length < 64) := Collected.collecting c
  cases ticked : tickBit p.tick
  case false =>
    have noSample : p.sample = none := by simp [Pins.sample, ticked]
    rw [noSample, Option.toList_none, List.append_nil, State.afterTick, ticked]
    exact c
  case true =>
    have sample : p.sample = some (tickSample p.tick) := by simp [Pins.sample, ticked, running]
    rw [sample, Option.toList_some, State.afterTick, ticked, collecting, CollectedOf]
    by_cases short : zs.length < 64
    case pos =>
      rw [List.take_of_length_le (Nat.le_of_lt short), decide_eq_true short, List.take_of_length_le (by simp; omega)]
      rw [CollectedOf, List.take_of_length_le (Nat.le_of_lt short)] at c
      exact c.takeTick short _
    case neg =>
      rw [List.take_append_of_le_length (by omega), decide_eq_false (by simp; omega)]
      exact c

/-- `CollectedOf` is about the collector's elements only. -/
theorem CollectedOf.of_elements {s t u : State} {ready : Bool} {zs : List Byte} (c : CollectedOf s ready zs t)
    (stir : u.stir = t.stir) (count : u.count = t.count) (block : u.block = t.block)
    (readyKept : u.ready = t.ready) (collecting : u.collecting = t.collecting) : CollectedOf s ready zs u where
  stir := stir.trans c.stir
  block := block ▸ c.block
  collecting := collecting.trans c.collecting
  count := count ▸ c.count
  ready := readyKept.trans c.ready

/-! ## The cycles of a collection -/

/-- A cycle takes its sample from where its bus phase leaves the collection. -/
theorem collectedOf_of_busPhase {s t v : State} {p : Pins} {ready : Bool} {zs : List Byte} (running : p.rstN = true)
    (stepped : step (t.present p) = .next v)
    (busPhase : ∀ u, exec (decodeBus p.bus) ((t.present p).advance.drive 0x00#8) = .next u →
      CollectedOf s ready zs u) : CollectedOf s ready (zs ++ p.sample.toList) v := by
  obtain ⟨u, busRun, rfl⟩ := step_present_phases running stepped
  exact ((busPhase u busRun).afterTick p running).of_elements (State.afterButton_stir _ _)
    (State.afterButton_count _ _) (State.afterButton_block _ _) (State.afterButton_ready _ _)
    (State.afterButton_collecting _ _)

theorem Pins.rstN_of_begins {p : Pins} (begins : p.begins = true) : p.rstN = true := by
  cases reset : p.rstN
  case true => rfl
  case false => simp [Pins.begins, Pins.ctrlData, reset] at begins

/-- R114: BEGIN starts a collection without samples. -/
theorem collectedOf_begin {s t : State} {p : Pins} (idle : s.collecting = false) (zero : s.idleCountZero)
    (begins : p.begins = true) (stepped : step (s.present p) = .next t) :
    CollectedOf s (s.ready && !p.clearsReady) p.sample.toList t := by
  have running := Pins.rstN_of_begins begins
  refine collectedOf_of_busPhase (zs := []) running stepped fun u busRun => ?_
  obtain ⟨stir, count, block, -, collecting, ready, -⟩ := busPhase_spec running busRun
  refine ⟨stir, fun k => congrArg (Vector.get · k) block, ?_, ?_, ready⟩
  · rw [collecting, begins, Bool.or_true]
    rfl
  · rw [count]
    exact congrArg BitVec.toNat (zero idle)

/-- A cycle without BEGIN and CLR_READY is one more of the collection. -/
theorem CollectedOf.step {s t : State} {ready : Bool} {zs : List Byte} (c : CollectedOf s ready zs t) {p : Pins}
    (running : p.rstN = true) (noBegin : p.begins = false) (noClear : p.clearsReady = false) :
    ∃ u, step (t.present p) = .next u ∧ CollectedOf s ready (zs ++ p.sample.toList) u := by
  obtain ⟨v, stepped⟩ := step_answers (t.present p)
  refine ⟨v, stepped, collectedOf_of_busPhase running stepped fun u busRun => ?_⟩
  obtain ⟨stir, count, block, -, collecting, readyKept, -⟩ := busPhase_spec running busRun
  refine c.of_elements stir count block (readyKept.trans ?_) (collecting.trans ?_)
  · rw [noClear]
    exact Bool.and_true _
  · rw [noBegin]
    exact Bool.or_false _

theorem samples_cons (p : Pins) (ps : List Pins) : samples (p :: ps) = p.sample.toList ++ samples ps := by
  unfold samples
  cases sampled : p.sample <;> simp [sampled]

theorem CollectedOf.run (ps : List Pins) {s t : State} {ready : Bool} {zs : List Byte} (c : CollectedOf s ready zs t)
    (allowed : ∀ q ∈ ps, q.rstN = true ∧ q.begins = false ∧ q.clearsReady = false) :
    ∃ u, runScript ps t = .next u ∧ CollectedOf s ready (zs ++ samples ps) u := by
  induction ps generalizing t zs with
  | nil => exact ⟨t, rfl, by rwa [samples, List.filterMap_nil, List.append_nil]⟩
  | cons p ps ih =>
    obtain ⟨⟨running, noBegin, noClear⟩, allowedRest⟩ := List.forall_mem_cons.mp allowed
    obtain ⟨u, stepped, cu⟩ := c.step running noBegin noClear
    obtain ⟨v, ran, cv⟩ := ih cu allowedRest
    refine ⟨v, ?_, ?_⟩
    · rw [runScript, stepped, andThen_next, ran]
    · rwa [samples_cons, ← List.append_assoc]

/-- R117: BEGIN and the cycles after it collect the first 64 samples presented in them. -/
theorem runScript_collects {s : State} {p : Pins} {ps : List Pins} (idle : s.collecting = false)
    (zero : s.idleCountZero) (begins : p.begins = true)
    (allowed : ∀ q ∈ ps, q.rstN = true ∧ q.begins = false ∧ q.clearsReady = false) :
    ∃ t, runScript (p :: ps) s = .next t ∧
      CollectedOf s (s.ready && !p.clearsReady) (samples (p :: ps)) t := by
  obtain ⟨u, stepped⟩ := step_answers (s.present p)
  obtain ⟨t, ran, c⟩ := (collectedOf_begin idle zero begins stepped).run ps allowed
  refine ⟨t, ?_, ?_⟩
  · rw [runScript, stepped, andThen_next, ran]
  · rwa [samples_cons]

/-- Settles O47: the fields of `Collected`. -/
theorem collectionAssemblesBlock : Obligations.CollectionAssemblesBlock := by
  intro s p ps idle zero begins allowed
  obtain ⟨t, ran, c⟩ := runScript_collects idle zero begins allowed
  exact ⟨t, ran, c.stir, c.block, c.collecting, c.count, c.ready⟩

/-! ## The chain of windows (R120) -/

/-- R119, R120: the next window's eight samples mix into the carried accumulator. -/
theorem stirAll_take_window (s : Byte) (xs : List Byte) {k : Nat} (enough : 8 * (k + 1) ≤ xs.length) :
    stirAll s (xs.take (8 * (k + 1))) = stirAll s (xs.take (8 * k)) ^^^ windowMix (window k xs) := by
  have byte : (window k xs).length = 8 := by
    rw [window, List.length_take, List.length_drop]
    omega
  rw [← stirAll_byte _ byte, Nat.mul_succ, List.take_add, stirAll, List.foldl_append]
  rfl

/-- A chain of bytes in which every window mixes in 0x00 is constant. -/
theorem chain_constant {bytes : Fin 8 → Byte} {s : Byte} {mix : Nat → Byte} (first : bytes 0 = s ^^^ mix 0)
    (next : ∀ k : Nat, ∀ h : k + 1 < 8, bytes ⟨k + 1, h⟩ = bytes ⟨k, Nat.lt_of_succ_lt h⟩ ^^^ mix (k + 1))
    (zero : ∀ k < 8, mix k = 0x00#8) (i : Fin 8) : bytes i = s := by
  obtain ⟨k, bound⟩ := i
  induction k with
  | zero => exact first.trans (by rw [zero 0 bound, BitVec.xor_zero])
  | succ k ih => rw [next k bound, zero (k + 1) bound, BitVec.xor_zero, ih]

/-- Settles O48: after 64 samples each byte is the accumulator after its window, and the last one is STIR. -/
theorem carriedStirChainsBlocks : Obligations.CarriedStirChainsBlocks := by
  intro s p ps idle zero begins allowed full
  obtain ⟨t, ran, c⟩ := runScript_collects idle zero begins allowed
  rw [CollectedOf, List.take_of_length_le full.le] at c
  have byte (k : Nat) (h : k < 8) :
      t.block.get ⟨k, h⟩ = stirAll s.stir ((samples (p :: ps)).take (8 * (k + 1))) := by
    rw [c.block, if_pos (by omega)]
  have first : t.block.get 0 = s.stir ^^^ windowMix (window 0 (samples (p :: ps))) :=
    (byte 0 (by omega)).trans (stirAll_take_window _ _ (by omega))
  have next (k : Nat) (h : k + 1 < 8) : t.block.get ⟨k + 1, h⟩ =
      t.block.get ⟨k, Nat.lt_of_succ_lt h⟩ ^^^ windowMix (window (k + 1) (samples (p :: ps))) := by
    rw [byte, byte, stirAll_take_window _ _ (by omega)]
  refine ⟨t, ran, first, next, ?_, fun mixed => chain_constant first next mixed⟩
  rw [c.stir]
  exact ((byte 7 (by omega)).trans (by rw [List.take_of_length_le full.le])).symm

end Sys2Proof.Machine
end

section
/-!
Runs without end under TICK_FAIR (R194): as long as the collection does not end COUNT grows with every tick, and it has
room for 63 of them.
-/
namespace Sys2Proof.Machine

/-- The states `ss` of a run without end and without reset under the pins `ps`. -/
def EndlessRun (ps : Nat → Pins) (ss : Nat → State) : Prop := ∀ n, CycleEffect (ps n) (ss n) (ss (n + 1))

/-- TICK_FAIR, said of the run's states. -/
def FairTicks (ps : Nat → Pins) (ss : Nat → State) : Prop :=
  ∀ n, (∀ m, n ≤ m → (ss m).collecting = true) → ∃ m, n ≤ m ∧ (ps m).sample.isSome = true

theorem fairTicks_of_tickFair {ps : Nat → Pins} {ss : Nat → State} (ran : ∀ n, runUnder ps (ss 0) n = .next (ss n))
    (fair : tickFair ps (ss 0)) : FairTicks ps ss := by
  intro n collecting
  refine fair n fun m later t reached => ?_
  rw [ran m] at reached
  cases reached
  exact collecting m later

/-- Under pins without reset cycles there is a run without end. -/
theorem exists_endlessRun {ps : Nat → Pins} (s : State) (running : ∀ n, (ps n).rstN = true) :
    ∃ ss : Nat → State, ss 0 = s ∧ EndlessRun ps ss ∧ ∀ n, runUnder ps s n = .next (ss n) := by
  have answers : ∀ n, ∃ t, runUnder ps s n = .next t := by
    intro n
    induction n with
    | zero => exact ⟨s, rfl⟩
    | succ n ih =>
      obtain ⟨t, ran⟩ := ih
      rw [runUnder, ran]
      exact step_answers _
  choose ss ran using answers
  refine ⟨ss, (Host.Outcome.next.inj (ran 0)).symm, fun n => step_cycleEffect (running n) ?_, ran⟩
  have ranNext := ran (n + 1)
  rwa [runUnder, ran n] at ranNext

section Endless
variable {ps : Nat → Pins} {ss : Nat → State} {n : Nat}

/-- R112: a tick taken by a collection that goes on is counted. -/
theorem EndlessRun.count_succ (run : EndlessRun ps ss) (now : (ss n).collecting = true)
    (after : (ss (n + 1)).collecting = true) :
    (ss (n + 1)).count.toNat = (ss n).count.toNat + if (ps n).sample.isSome then 1 else 0 := by
  have e := run n
  have inside : (ss n).completesIn (ps n) = false := by
    rw [e.collecting, Bool.and_eq_true, Bool.not_eq_true'] at after
    exact after.2
  have room : (ss n).count.toNat + (if (ps n).sample.isSome then 1 else 0) < 64 := by
    have bound := (ss n).count.isLt
    split
    next ticked =>
      have notLast : (ss n).count ≠ 63#6 := fun last => Bool.eq_false_iff.mp inside
        (((ss n).completesIn_iff (ps n)).mpr ⟨ticked, last, .inl now⟩)
      bv_omega
    next => omega
  exact (e.counts now room).2

theorem EndlessRun.count_le (run : EndlessRun ps ss) (collecting : ∀ m, n ≤ m → (ss m).collecting = true) {m : Nat}
    (later : n ≤ m) : (ss n).count.toNat ≤ (ss m).count.toNat := by
  induction m, later using Nat.le_induction with
  | base => exact Nat.le_refl _
  | succ m later ih =>
    rw [run.count_succ (collecting m later) (collecting (m + 1) (Nat.le_succ_of_le later))]
    omega

/-- Under TICK_FAIR a collection that never ends would count past every bound. -/
theorem EndlessRun.count_unbounded (run : EndlessRun ps ss) (fair : FairTicks ps ss)
    (collecting : ∀ m, n ≤ m → (ss m).collecting = true) (bound : Nat) :
    ∃ m, n ≤ m ∧ bound ≤ (ss m).count.toNat := by
  induction bound with
  | zero => exact ⟨n, Nat.le_refl n, Nat.zero_le _⟩
  | succ bound ih =>
    obtain ⟨m, later, reached⟩ := ih
    have onward : ∀ k, m ≤ k → (ss k).collecting = true := fun k hk => collecting k (later.trans hk)
    obtain ⟨k, kLater, ticked⟩ := fair m onward
    have grown := run.count_succ (onward k kLater) (onward (k + 1) (Nat.le_succ_of_le kLater))
    rw [if_pos ticked] at grown
    have kept := run.count_le onward kLater
    exact ⟨k + 1, by omega, by omega⟩

/-- R112, R194: under TICK_FAIR a running collection ends, and it ends with READY = 1. -/
theorem EndlessRun.exists_completes (run : EndlessRun ps ss) (fair : FairTicks ps ss)
    (collecting : (ss n).collecting = true) :
    ∃ m, n < m ∧ (ss m).ready = true ∧ (ss m).collecting = false := by
  have ends : ∃ k, (ss (n + k)).collecting = false := by
    by_contra never
    have onward : ∀ m, n ≤ m → (ss m).collecting = true := by
      intro m later
      obtain ⟨k, rfl⟩ := Nat.exists_eq_add_of_le later
      exact Bool.eq_true_of_not_eq_false fun ended => never ⟨k, ended⟩
    obtain ⟨m, -, exceeded⟩ := run.count_unbounded fair onward 64
    exact absurd (ss m).count.isLt (Nat.not_lt.mpr exceeded)
  cases first : Nat.find ends with
  | zero =>
    have ended := Nat.find_spec ends
    rw [first, Nat.add_zero, collecting] at ended
    cases ended
  | succ k =>
    have ended := Nat.find_spec ends
    have before : (ss (n + k)).collecting = true :=
      Bool.eq_true_of_not_eq_false (Nat.find_min ends (by omega))
    rw [first] at ended
    have e := run (n + k)
    refine ⟨n + k + 1, by omega, ?_, ended⟩
    rw [e.ready, e.collecting_falls before ended, Bool.true_or]

end Endless

/-- Settles O50. -/
theorem collectionCompletesUnderTickFair : Obligations.CollectionCompletesUnderTickFair := by
  intro e s collecting running fair
  obtain ⟨ss, rfl, run, ran⟩ := exists_endlessRun s running
  obtain ⟨n, -, ready, ended⟩ := run.exists_completes (fairTicks_of_tickFair ran fair) collecting
  exact ⟨n, ss n, ran n, ready, ended⟩

end Sys2Proof.Machine
end

section
/-!
Host and block together (R195 to R200): what a host that keeps its duties relies on is kept by waking and by each of the
three kinds of cycle (a BEGIN, Collecting's `clrrdy`, any other), and so by every run.
-/
namespace Sys2Proof.Machine

/-! ## What a host's writes ask for -/

section Writes
variable {m : HostMove}

/-- `rearm` (0x14) sets ARM and CLR_REQ. -/
theorem HostMove.of_writes_rearm (w : m.writes Pseudo.rearm.data) :
    m.pins.arms = true ∧ m.pins.clearsReq = true ∧ m.pins.begins = false := by
  obtain ⟨begins, -, arms, -, clearsReq⟩ := Pins.of_ctrlData w
  exact ⟨arms, clearsReq, begins⟩

/-- A move without a transaction asks for nothing. -/
theorem HostMove.of_idle (idle : decodeBus m.bus = .busIdle) :
    m.pins.begins = false ∧ m.pins.clearsReady = false ∧ m.pins.arms = false ∧ m.pins.disarms = false ∧
      m.pins.clearsReq = false :=
  Pins.of_ctrlData_none (HostMove.ctrlData_of_idle idle)

theorem HostMove.readsStatus_of_idle (idle : decodeBus m.bus = .busIdle) : m.readsStatus = false := by
  rw [HostMove.readsStatus, idle]
  rfl

/-- Both starts of HD1 set BEGIN and CLR_READY and do not arm. -/
theorem HostMove.of_writes_start {h : HostView}
    (w : m.writes startRequestData ∨ (h.reqCleared = true ∧ m.writes Pseudo.start.data)) :
    m.pins.clearsReady = true ∧ m.pins.arms = false ∧ (m.pins.clearsReq = true ∨ h.reqCleared = true) := by
  obtain w | ⟨cleared, w⟩ := w
  · obtain ⟨-, clearsReady, arms, -, clearsReq⟩ := Pins.of_ctrlData w
    exact ⟨clearsReady, arms, .inl clearsReq⟩
  · obtain ⟨-, clearsReady, arms, -⟩ := Pins.of_ctrlData w
    exact ⟨clearsReady, arms, .inr cleared⟩

end Writes

/-! ## The arbiter in a cycle that does not arm -/

section Unarmed
variable {s t : State} {p : Pins}

theorem CycleEffect.unarmed (e : CycleEffect p s t) (disarmed : s.btnArmed = false) (noArm : p.arms = false) :
    t.btnArmed = false ∧ t.btnReq = (s.btnReq && !p.clearsReq) := by
  have unarmed := State.armedIn_of_disarmed disarmed noArm
  refine ⟨?_, ?_⟩
  · rw [e.btnArmed, unarmed, Bool.false_and]
  · rw [e.btnReq, State.firesIn_of_not_armedIn unarmed, Bool.false_or]

/-- R156: an arbiter left armed through the cycle is armed after it or has fired in it. -/
theorem CycleEffect.armed_or_fired (e : CycleEffect p s t) (armed : s.armedIn p = true) :
    t.btnArmed = true ∨ t.btnReq = true := by
  rw [e.btnArmed, e.btnReq, armed]
  cases s.firesIn p
  · exact .inl rfl
  · exact .inr rfl

end Unarmed

/-- R117: a collection that runs in a cycle goes on or leaves its block ready. -/
theorem CycleEffect.busy_of_runs {s t : State} {p : Pins} (e : CycleEffect p s t) (runs : s.runsIn p = true) :
    t.collecting = true ∨ t.ready = true := by
  rw [e.collecting, e.ready, runs]
  cases s.completesIn p
  · exact .inl rfl
  · exact .inr rfl

/-! ## Waking -/

theorem HostRelies.wake {c : HostTunables} {h : HostView} {s : State} (r : HostRelies c h s) :
    HostRelies c (h.wake s) s := by
  by_cases woken : h.phase = .sleeping ∧ s.btnReq = true
  case neg =>
    have asleepOrAwake : h.wake s = h := if_neg woken
    rwa [asleepOrAwake]
  case pos =>
    obtain ⟨sleeping, requested⟩ := woken
    rw [HostView.wake_of_request sleeping requested]
    have idle : s.collecting = false := r.displayingIdle (by rw [sleeping]; decide)
    have disarmed : s.btnArmed = false := Bool.eq_false_iff.mpr fun armed => r.oneShot ⟨armed, requested⟩
    exact
      { idle := r.idle
        displayingIdle := fun _ => idle
        collectingBusy := nofun
        readyStays := nofun
        fresh := r.fresh
        unarmed := fun _ _ => disarmed
        window := nofun
        collectingUnarmed := nofun
        acting := nofun
        cleared := nofun
        oneShot := r.oneShot
        wakeable := nofun }

/-! ## A cycle that begins a collection (HD1) -/

section Cycle
variable {c : HostTunables} {h : HostView} {s t : State} {m : HostMove}

/-- HD1: a BEGIN comes from a host that acts on a request, with the arbiter disarmed and no collection running. -/
theorem HostRelies.of_begins (r : HostRelies c h s) (d : HostDuties c h s m) (begins : m.pins.begins = true) :
    s.collecting = false ∧ s.btnArmed = false ∧ m.pins.clearsReady = true ∧ m.pins.arms = false ∧
      (m.pins.clearsReq = true ∨ s.btnReq = false) := by
  obtain ⟨-, request, idle, writes⟩ := d.start begins
  obtain ⟨-, -, disarmed⟩ := r.acting request
  obtain ⟨clearsReady, noArm, clears⟩ := HostMove.of_writes_start writes
  exact ⟨idle, disarmed, clearsReady, noArm, clears.imp_right fun cleared => (r.cleared cleared).2⟩

theorem HostRelies.after_begins (r : HostRelies c h s) (d : HostDuties c h s m) (e : CycleEffect m.pins s t)
    (begins : m.pins.begins = true) : HostRelies c (h.after s m) t := by
  obtain ⟨-, disarmed, clearsReady, noArm, -⟩ := r.of_begins d begins
  obtain ⟨tDisarmed, -⟩ := e.unarmed disarmed noArm
  rw [HostView.after_begins begins]
  exact
    { idle := nofun
      displayingIdle := fun other => absurd rfl other
      collectingBusy := fun _ => e.busy_of_runs (by rw [State.runsIn, begins, Bool.or_true])
      readyStays := nofun
      fresh := e.keeps_noStaleReady r.fresh fun _ => clearsReady
      unarmed := fun _ _ => tDisarmed
      window := nofun
      collectingUnarmed := fun _ => rfl
      acting := nofun
      cleared := nofun
      oneShot := fun both => Bool.false_ne_true (tDisarmed.symm.trans both.1)
      wakeable := nofun }

/-! ## The cycle that consumes the block (HD3) -/

/-- HD3: Collecting's CLR_READY comes once READY was seen; it leaves no collection, READY = 0 and the arbiter
disarmed. -/
theorem HostRelies.of_consumes (r : HostRelies c h s) (d : HostDuties c h s m) (e : CycleEffect m.pins s t)
    (noBegin : m.pins.begins = false) (phase : h.phase = .collecting) (clears : m.pins.clearsReady = true) :
    t.collecting = false ∧ t.ready = false ∧ t.btnArmed = false := by
  obtain begins | ⟨-, seen, writes⟩ := d.consume clears
  · rw [noBegin] at begins
    cases begins
  have ready : s.ready = true := r.readyStays phase seen
  have idle : s.collecting = false := Bool.eq_false_iff.mpr fun collecting => r.fresh ⟨collecting, ready⟩
  have inside : s.completesIn m.pins = false :=
    State.completesIn_of_not_honours (State.honoursTick_of_not_runs (State.runsIn_of_idle idle noBegin))
  have disarmed : s.btnArmed = false := r.unarmed (by rw [phase]; decide) (r.collectingUnarmed phase)
  obtain ⟨-, -, noArm, -⟩ := Pins.of_ctrlData writes
  refine ⟨e.collecting_of_idle idle noBegin, ?_, (e.unarmed disarmed noArm).1⟩
  rw [e.ready, inside, clears, Bool.not_true, Bool.and_false, Bool.or_false]

theorem HostRelies.after_consumes (r : HostRelies c h s) (d : HostDuties c h s m) (e : CycleEffect m.pins s t)
    (noBegin : m.pins.begins = false) (phase : h.phase = .collecting) (clears : m.pins.clearsReady = true) :
    HostRelies c (h.after s m) t := by
  obtain ⟨idle, -, disarmed⟩ := r.of_consumes d e noBegin phase clears
  rw [HostView.after_consumes noBegin phase clears]
  exact
    { idle := fun _ => idle
      displayingIdle := fun _ => idle
      collectingBusy := nofun
      readyStays := nofun
      fresh := fun stale => Bool.false_ne_true (idle.symm.trans stale.1)
      unarmed := fun _ _ => disarmed
      window := nofun
      collectingUnarmed := nofun
      acting := nofun
      cleared := nofun
      oneShot := fun both => Bool.false_ne_true (disarmed.symm.trans both.1)
      wakeable := nofun }

/-! ## Any other cycle -/

/-- The arbiter is never armed over a request: `rearm` clears the request it arms over (HD2). -/
theorem HostRelies.oneShot_after (r : HostRelies c h s) (d : HostDuties c h s m) (e : CycleEffect m.pins s t) :
    ¬(t.btnArmed = true ∧ t.btnReq = true) := by
  rintro ⟨armed, requested⟩
  rw [e.btnArmed, Bool.and_eq_true, Bool.not_eq_true'] at armed
  obtain ⟨armedIn, quiet⟩ := armed
  rw [e.btnReq, quiet, Bool.false_or, Bool.and_eq_true, Bool.not_eq_true'] at requested
  obtain ⟨before, notCleared⟩ := requested
  obtain ⟨-, arms | armedBefore⟩ := (s.armedIn_iff m.pins).mp armedIn
  · obtain ⟨-, -, -, rearms⟩ := d.debounce arms
    obtain ⟨-, clears, -⟩ := HostMove.of_writes_rearm rearms
    rw [notCleared] at clears
    cases clears
  · exact r.oneShot ⟨armedBefore, before⟩

/-- HD5: the host falls asleep with the arbiter armed, and a sleeping host leaves it so. -/
theorem HostRelies.wakeable_after (r : HostRelies c h s) (d : HostDuties c h s m) (e : CycleEffect m.pins s t)
    (sleeps : m.halts = true ∨ h.phase = .sleeping) : t.btnArmed = true ∨ t.btnIrq = true := by
  have idleArmed (idle : decodeBus m.bus = .busIdle) (armed : s.btnArmed = true) : s.armedIn m.pins = true := by
    obtain ⟨-, -, -, noDisarm, -⟩ := HostMove.of_idle idle
    exact (s.armedIn_iff _).mpr ⟨noDisarm, .inr armed⟩
  obtain halts | sleeping := sleeps
  · obtain ⟨-, -, -, rearms | ⟨armed, idle⟩⟩ := d.sleep halts
    · obtain ⟨arms, -⟩ := HostMove.of_writes_rearm rearms
      exact e.armed_or_fired (State.armedIn_of_arms arms)
    · exact e.armed_or_fired (idleArmed idle armed)
  · have idle := d.halted sleeping
    obtain armed | requested := r.wakeable sleeping
    · exact e.armed_or_fired (idleArmed idle armed)
    · obtain ⟨-, -, -, -, noClear⟩ := HostMove.of_idle idle
      have before : s.btnReq = true := requested
      refine .inr ?_
      rw [State.btnIrq, e.btnReq, before, noClear, Bool.not_false, Bool.and_true, Bool.or_true]

/-- A host that reads STATUS is awake and stays so, and arms nothing. -/
theorem HostDuties.of_readsStatus (d : HostDuties c h s m) (reads : m.readsStatus = true) :
    h.phase ≠ .sleeping ∧ m.halts = false ∧ m.pins.arms = false := by
  have writesNothing := HostMove.ctrlData_of_readsStatus reads
  have notIdle : decodeBus m.bus ≠ .busIdle := fun idle =>
    Bool.false_ne_true ((HostMove.readsStatus_of_idle idle).symm.trans reads)
  obtain ⟨-, -, noArm, -⟩ := Pins.of_ctrlData_none writesNothing
  refine ⟨fun sleeping => notIdle (d.halted sleeping), Bool.eq_false_iff.mpr fun halts => ?_, noArm⟩
  obtain ⟨-, -, -, rearms | ⟨-, idle⟩⟩ := d.sleep halts
  · rw [HostMove.writes, writesNothing] at rearms
    cases rearms
  · exact notIdle idle

/-- A host that acts on a request, or sees one in this cycle, stays awake in its episode with the arbiter disarmed and
arms nothing. -/
theorem HostRelies.of_request_after (r : HostRelies c h s) (d : HostDuties c h s m)
    (request : (h.request || (m.readsStatus && h.rearmed && s.btnReq)) = true) :
    h.phase = .displaying ∧ m.halts = false ∧ h.rearmed = true ∧ s.btnArmed = false ∧ m.pins.arms = false := by
  rw [Bool.or_eq_true, Bool.and_eq_true, Bool.and_eq_true] at request
  obtain acts | ⟨⟨reads, rearmed⟩, requested⟩ := request
  · obtain ⟨phase, rearmed, disarmed⟩ := r.acting acts
    have refused {P : Prop} (noRequest : h.request = false) : P :=
      absurd (noRequest.symm.trans acts) Bool.false_ne_true
    refine ⟨phase, Bool.eq_false_iff.mpr fun halts => ?_, rearmed, disarmed, Bool.eq_false_iff.mpr fun arms => ?_⟩
    · obtain ⟨-, -, noRequest, -⟩ := d.sleep halts
      exact refused noRequest
    · obtain ⟨-, -, noRequest, -⟩ := d.debounce arms
      exact refused noRequest
  · obtain ⟨awake, noHalt, noArm⟩ := d.of_readsStatus reads
    have phase : h.phase = .displaying := by
      cases current : h.phase
      case displaying => rfl
      case collecting => exact absurd ((r.collectingUnarmed current).symm.trans rearmed) Bool.false_ne_true
      case sleeping => exact absurd current awake
    exact ⟨phase, noHalt, rearmed, Bool.eq_false_iff.mpr fun armed => r.oneShot ⟨armed, requested⟩, noArm⟩

/-- After `clrreq` the host still acts on the request, which is gone: the disarmed arbiter raises no other. -/
theorem HostRelies.cleared_after (r : HostRelies c h s) (d : HostDuties c h s m) (e : CycleEffect m.pins s t)
    (cleared : (h.reqCleared || (h.request && decide (m.pins.ctrlData = some Pseudo.clrreq.data))) = true) :
    h.request = true ∧ t.btnReq = false := by
  rw [Bool.or_eq_true, Bool.and_eq_true, decide_eq_true_eq] at cleared
  have acts : h.request = true := cleared.elim (fun before => (r.cleared before).1) And.left
  obtain ⟨-, -, -, disarmed, noArm⟩ := r.of_request_after d (by rw [acts, Bool.true_or])
  refine ⟨acts, ?_⟩
  rw [(e.unarmed disarmed noArm).2]
  obtain before | ⟨-, writes⟩ := cleared
  · rw [(r.cleared before).2, Bool.false_and]
  · obtain ⟨-, -, -, -, clears⟩ := Pins.of_ctrlData writes
    rw [clears]
    exact Bool.and_false _

theorem HostRelies.after_other (r : HostRelies c h s) (d : HostDuties c h s m) (e : CycleEffect m.pins s t)
    (noBegin : m.pins.begins = false) (other : h.phase ≠ .collecting ∨ m.pins.clearsReady = false) :
    HostRelies c (h.after s m) t := by
  have haltsDisplaying (halts : m.halts = true) : h.phase = .displaying := (d.sleep halts).1
  have collectingNow (phase : (if m.halts then HostPhase.sleeping else h.phase) = .collecting) :
      h.phase = .collecting := by
    split at phase
    · cases phase
    · exact phase
  have readyKept (phase : h.phase = .collecting) (ready : s.ready = true) : t.ready = true := by
    rw [e.ready, ready, other.resolve_left (not_not_intro phase), Bool.not_false, Bool.and_true, Bool.or_true]
  have noArmOutside (phase : h.phase ≠ .displaying) : m.pins.arms = false :=
    Bool.eq_false_iff.mpr fun arms => phase (d.debounce arms).1
  rw [HostView.after_other noBegin other]
  refine
    { idle := fun seen => e.collecting_of_idle ?idle noBegin
      displayingIdle := fun phase => e.collecting_of_idle (r.displayingIdle ?displayingIdle) noBegin
      collectingBusy := ?collectingBusy
      readyStays := ?readyStays
      fresh := e.keeps_noStaleReady r.fresh fun begins => absurd (noBegin.symm.trans begins) Bool.false_ne_true
      unarmed := ?unarmed
      window := ?window
      collectingUnarmed := ?collectingUnarmed
      acting := ?acting
      cleared := ?cleared
      oneShot := r.oneShot_after d e
      wakeable := fun asleep => r.wakeable_after d e ?wakeable }
  case idle =>
    obtain before | now := Bool.or_eq_true_iff.mp seen
    · exact r.idle before
    · rw [Bool.and_eq_true, Bool.not_eq_true'] at now
      exact now.2
  case displayingIdle =>
    intro collecting
    refine phase ?_
    have awake : m.halts ≠ true := fun halts => by
      rw [haltsDisplaying halts] at collecting
      cases collecting
    rw [if_neg awake]
    exact collecting
  case collectingBusy =>
    intro phase
    have phase := collectingNow phase
    obtain collecting | ready := r.collectingBusy phase
    · exact e.busy_of_runs (by rw [State.runsIn, collecting, Bool.true_or])
    · exact .inr (readyKept phase ready)
  case readyStays =>
    intro phase seen
    have phase := collectingNow phase
    obtain before | now := Bool.or_eq_true_iff.mp seen
    · exact readyKept phase (r.readyStays phase before)
    · rw [Bool.and_eq_true] at now
      exact readyKept phase now.2
  case unarmed =>
    intro awake noRearm
    rw [Bool.or_eq_false_iff] at noRearm
    obtain ⟨notBefore, noArm⟩ := noRearm
    have phase : h.phase ≠ .sleeping := fun sleeping => awake (by rw [sleeping, ite_self])
    exact (e.unarmed (r.unarmed phase notBefore) noArm).1
  case window =>
    intro rearmed
    have elapsed : c.nextAllowCycle ≤ h.passes := by
      obtain before | arms := Bool.or_eq_true_iff.mp rearmed
      · exact r.window before
      · obtain ⟨-, elapsed, -⟩ := d.debounce arms
        exact elapsed
    change c.nextAllowCycle ≤ if _ then _ else _
    split
    · exact Nat.le_succ_of_le elapsed
    · exact elapsed
  case collectingUnarmed =>
    intro phase
    have phase := collectingNow phase
    exact Bool.or_eq_false_iff.mpr ⟨r.collectingUnarmed phase, noArmOutside (by rw [phase]; decide)⟩
  case acting =>
    intro request
    obtain ⟨phase, noHalt, rearmed, disarmed, noArm⟩ := r.of_request_after d request
    refine ⟨?_, ?_, (e.unarmed disarmed noArm).1⟩
    · rw [noHalt]
      exact phase
    · rw [rearmed, Bool.true_or]
  case cleared =>
    intro cleared
    obtain ⟨acts, gone⟩ := r.cleared_after d e cleared
    exact ⟨by rw [acts, Bool.true_or], gone⟩
  case wakeable =>
    by_cases halts : m.halts = true
    · exact .inl halts
    · rw [if_neg halts] at asleep
      exact .inr asleep

/-! ## Every cycle and every run -/

theorem HostRelies.after_cycle (r : HostRelies c h s) (d : HostDuties c h s m) (e : CycleEffect m.pins s t) :
    HostRelies c (h.after s m) t := by
  cases begins : m.pins.begins
  case true => exact r.after_begins d e begins
  case false =>
    by_cases consumes : h.phase = .collecting ∧ m.pins.clearsReady = true
    · obtain ⟨phase, clears⟩ := consumes
      exact r.after_consumes d e begins phase clears
    · refine r.after_other d e begins ?_
      rwa [← Bool.not_eq_true, ← not_and_or]

theorem HostRelies.step (r : HostRelies c h s) (d : HostDuties c (h.wake s) s m)
    (stepped : step (s.present m.pins) = .next t) : HostRelies c ((h.wake s).after s m) t :=
  r.wake.after_cycle d (step_cycleEffect rfl stepped)

end Cycle

theorem HostRelies.run {c : HostTunables} {h h' : HostView} {s s' : State} {ms : List HostMove}
    (r : HostRelies c h s) (run : HostRun c h s ms h' s') : HostRelies c h' s' := by
  induction run with
  | done => exact r
  | cycle duties stepped _ ih => exact ih (r.step duties stepped)

/-- Settles O53: `HostRelies.wake`, then one of the three kinds of cycle; the run by induction. -/
theorem hostDutiesKeepReliance : Obligations.HostDutiesKeepReliance :=
  ⟨fun _ _ _ _ _ r d stepped => r.step d stepped, fun _ _ _ _ _ _ r run => r.run run⟩

/-- Settles O52: at reset nothing is armed, requested, ready or collecting. -/
theorem hostRelianceAtReset : Obligations.HostRelianceAtReset := fun _ =>
  { idle := nofun
    displayingIdle := fun _ => rfl
    collectingBusy := nofun
    readyStays := nofun
    fresh := nofun
    unarmed := fun _ _ => rfl
    window := nofun
    collectingUnarmed := nofun
    acting := nofun
    cleared := nofun
    oneShot := nofun
    wakeable := nofun }

end Sys2Proof.Machine
end

section
/-!
What the host's reliance gives it (R195 to R200, R267, R269): a fresh collection at each BEGIN, a disarmed debounce
window, no torn read of BLOCK, an end of Collecting under TICK_FAIR, and a wake-up that starts no collection.
-/
namespace Sys2Proof.Machine

/-! ## A BEGIN (HD1) -/

section Cycle
variable {c : HostTunables} {h : HostView} {s t : State} {m : HostMove}

theorem State.statusByte_of_flags (collecting : t.collecting = true) (ready : t.ready = false)
    (disarmed : t.btnArmed = false) (noRequest : t.btnReq = false) : t.statusByte = 0x01#8 := by
  rw [State.statusByte, collecting, ready, disarmed, noRequest]
  rfl

/-- R195: a BEGIN that keeps HD1 starts a collection with READY, BTN_REQ and BTN_ARMED 0. -/
theorem HostRelies.status_of_begins (r : HostRelies c h s) (d : HostDuties c h s m) (e : CycleEffect m.pins s t)
    (begins : m.pins.begins = true) (zero : s.idleCountZero) : t.statusByte = 0x01#8 := by
  obtain ⟨idle, disarmed, clearsReady, noArm, clearsReq⟩ := r.of_begins d begins
  obtain ⟨tDisarmed, tReq⟩ := e.unarmed disarmed noArm
  have inside : s.completesIn m.pins = false := by
    rw [State.completesIn, zero idle]
    exact Bool.and_false _
  refine State.statusByte_of_flags ?_ ?_ tDisarmed ?_
  · rw [e.collecting, State.runsIn, begins, inside, Bool.or_true]
    rfl
  · rw [e.ready, inside, clearsReady]
    exact Bool.and_false _
  · rw [tReq]
    obtain clears | gone := clearsReq
    · rw [clears]
      exact Bool.and_false _
    · rw [gone, Bool.false_and]

end Cycle

/-- Settles O54. -/
theorem hostStartsFreshCollection : Obligations.HostStartsFreshCollection := by
  intro c h h' s s' ms m r run d begins zero
  obtain ⟨t, stepped, e⟩ := exists_step_cycleEffect (p := m.pins) s' rfl
  refine ⟨t, stepped, (r.run run).wake.status_of_begins d e begins zero, ?_⟩
  rw [HostView.after_begins begins]

/-! ## The debounce window (HD2) -/

/-- Settles O55: before `rearm` the arbiter is disarmed, and in the window no move may arm it. -/
theorem hostWindowStaysDisarmed : Obligations.HostWindowStaysDisarmed := by
  intro c h h' s s' ms m r run d displaying
  have r := (r.run run).wake
  have awake : (h'.wake s').phase ≠ .sleeping := by rw [displaying]; decide
  refine ⟨fun top => r.unarmed awake (by rw [top]; rfl), fun window => ?window⟩
  case window =>
    have notRearmed : (h'.wake s').rearmed = false :=
      Bool.eq_false_iff.mpr fun rearmed => Nat.not_le_of_lt window (r.window rearmed)
    have noArm : m.pins.arms = false := by
      refine Bool.eq_false_iff.mpr fun arms => ?_
      obtain ⟨-, elapsed, -⟩ := d.debounce arms
      exact Nat.not_le_of_lt window elapsed
    have disarmed := r.unarmed awake notRearmed
    exact ⟨disarmed, step_keeps_disarmed disarmed noArm⟩

/-! ## Reads of BLOCK (HD4) -/

/-- R186: the byte that a read of BLOCK drives. -/
theorem State.busReply_rdBlock {w : BusWord} {idx : BitVec 3} (decoded : decodeBus w = .rdBlock idx) (s : State) :
    s.busReply w = s.blockByte idx := by
  have phase := exec_decodeBus w s
  rw [decoded] at phase
  exact (congrArg State.rdata (Host.Outcome.next.inj phase)).symm

/-- Settles O58. -/
theorem hostReadsNoTornBlock : Obligations.HostReadsNoTornBlock := by
  intro c h h' s s' ms m idx r run d read
  obtain ⟨t, stepped⟩ := step_answers (s'.present m.pins)
  refine ⟨(r.run run).wake.idle (d.readBlock idx read), t, stepped, ?_⟩
  rw [rdata_of_step_present rfl stepped]
  exact State.busReply_rdBlock read s'

/-! ## Collecting (HD3) -/

section Play
variable {c : HostTunables} {hs : Nat → HostView} {ss : Nat → State} {ms : Nat → HostMove}

theorem HostPlay.relies (play : HostPlay c hs ss ms) (r : HostRelies c (hs 0) (ss 0)) (n : Nat) :
    HostRelies c (hs n) (ss n) := by
  induction n with
  | zero => exact r
  | succ n ih =>
    rw [play.viewed n]
    exact ih.step (play.duties n) (play.stepped n)

theorem HostPlay.endlessRun (play : HostPlay c hs ss ms) : EndlessRun (fun n => (ms n).pins) ss :=
  fun n => step_cycleEffect rfl (play.stepped n)

/-- The host has left Collecting: it is at the top of an episode, and the block is idle, consumed and disarmed. -/
structure LeftCollecting (h : HostView) (s : State) : Prop where
  phase : h.phase = .displaying
  passes : h.passes = 0
  rearmed : h.rearmed = false
  idle : s.collecting = false
  consumed : s.ready = false
  disarmed : s.btnArmed = false

/-- Cycle n in Collecting does not leave it: nothing clears READY, and a STATUS read sees it. -/
structure StaysCollecting (hs : Nat → HostView) (ss : Nat → State) (ms : Nat → HostMove) (n : Nat) : Prop where
  phase : (hs (n + 1)).phase = .collecting
  kept : (ms n).pins.clearsReady = false
  seen : (hs (n + 1)).readySeen = ((hs n).readySeen || ((ms n).readsStatus && (ss n).ready))

variable {n : Nat}

/-- A cycle in Collecting leaves it by `clrrdy`, or stays and clears nothing. -/
theorem HostPlay.collecting_succ (play : HostPlay c hs ss ms) (r : HostRelies c (hs n) (ss n))
    (phase : (hs n).phase = .collecting) :
    LeftCollecting (hs (n + 1)) (ss (n + 1)) ∨ StaysCollecting hs ss ms n := by
  have awake : (hs n).phase ≠ .sleeping := by rw [phase]; decide
  have d := play.duties n
  have viewed := play.viewed n
  rw [HostView.wake_of_awake awake] at d viewed
  have noBegin : (ms n).pins.begins = false := Bool.eq_false_iff.mpr fun begins => by
    have displaying := (d.start begins).1
    rw [phase] at displaying
    cases displaying
  have noHalt : (ms n).halts ≠ true := fun halts => by
    have displaying := (d.sleep halts).1
    rw [phase] at displaying
    cases displaying
  cases clears : (ms n).pins.clearsReady
  case true =>
    obtain ⟨idle, consumed, disarmed⟩ := r.of_consumes d (play.endlessRun n) noBegin phase clears
    rw [HostView.after_consumes noBegin phase clears] at viewed
    rw [viewed]
    exact .inl ⟨rfl, rfl, rfl, idle, consumed, disarmed⟩
  case false =>
    rw [HostView.after_other noBegin (.inr clears)] at viewed
    refine .inr ⟨?_, clears, ?_⟩
    · rw [viewed]
      exact (if_neg noHalt).trans phase
    · rw [viewed]

/-- R117, R194: in Collecting, under TICK_FAIR, the block comes to be ready. -/
theorem HostPlay.exists_ready (play : HostPlay c hs ss ms) (r : HostRelies c (hs 0) (ss 0))
    (fair : FairTicks (fun n => (ms n).pins) ss) (phase : (hs n).phase = .collecting) :
    ∃ m, n ≤ m ∧ (ss m).ready = true := by
  obtain collecting | ready := (play.relies r n).collectingBusy phase
  · obtain ⟨m, later, ready, -⟩ := play.endlessRun.exists_completes fair collecting
    exact ⟨m, Nat.le_of_lt later, ready⟩
  · exact ⟨n, Nat.le_refl n, ready⟩

/-- READY stays while no cycle clears it. -/
theorem EndlessRun.ready_stays {ps : Nat → Pins} (run : EndlessRun ps ss) {k : Nat} (ready : (ss k).ready = true)
    (kept : ∀ m, k ≤ m → (ps m).clearsReady = false) {m : Nat} (later : k ≤ m) : (ss m).ready = true := by
  induction m, later using Nat.le_induction with
  | base => exact ready
  | succ m later ih => rw [(run m).ready, ih, kept m later, Bool.not_false, Bool.and_true, Bool.or_true]

/-- R197: a host that stays in Collecting without clearing READY fails a duty to act: it must come to see READY = 1 and
then to write `clrrdy`. -/
theorem HostPlay.not_collecting_forever (play : HostPlay c hs ss ms) (progress : HostProgress c hs ss ms)
    (r : HostRelies c (hs 0) (ss 0)) (fair : FairTicks (fun n => (ms n).pins) ss)
    (collecting : ∀ m, n ≤ m → (hs m).phase = .collecting) (stays : ∀ m, n ≤ m → StaysCollecting hs ss ms m) :
    False := by
  have unwoken (m : Nat) (later : n ≤ m) : (hs m).wake (ss m) = hs m :=
    HostView.wake_of_awake (by rw [collecting m later]; decide) _
  have neverSeen (m : Nat) (later : n ≤ m) : (hs m).readySeen = false := by
    refine Bool.eq_false_iff.mpr fun seen => ?_
    have consumes := progress.consumes m
    rw [unwoken m later] at consumes
    obtain ⟨k, kLater, writes⟩ := consumes (collecting m later) seen
    obtain ⟨-, clears, -⟩ := Pins.of_ctrlData writes
    rw [(stays k (later.trans kLater)).kept] at clears
    cases clears
  obtain ⟨k, kLater, ready⟩ := play.exists_ready r fair (collecting n (Nat.le_refl n))
  have polls := progress.polls k
  rw [unwoken k kLater] at polls
  obtain ⟨j, jLater, reads⟩ := polls (collecting k kLater) (neverSeen k kLater)
  have late := kLater.trans jLater
  have readyThen : (ss j).ready = true := play.endlessRun.ready_stays ready
    (fun m later => (stays m (kLater.trans later)).kept) jLater
  have seen := (stays j late).seen
  rw [neverSeen (j + 1) (Nat.le_succ_of_le late), reads, readyThen, Bool.and_true, Bool.or_true] at seen
  cases seen

end Play

/-- Settles O56: were Collecting never left, it would go on for ever without a `clrrdy`. -/
theorem hostLeavesCollecting : Obligations.HostLeavesCollecting := by
  intro c hs ss ms play progress r fair n phase
  have fair := fairTicks_of_tickFair play.runUnder_eq fair
  by_contra never
  have notLeft (m : Nat) (later : n ≤ m) : ¬ LeftCollecting (hs (m + 1)) (ss (m + 1)) := fun left =>
    never ⟨m + 1, Nat.lt_succ_of_le later, left.phase, left.passes, left.rearmed, left.idle, left.consumed,
      left.disarmed⟩
  have collecting (m : Nat) (later : n ≤ m) : (hs m).phase = .collecting := by
    induction m, later using Nat.le_induction with
    | base => exact phase
    | succ m later ih => exact ((play.collecting_succ (play.relies r m) ih).resolve_left (notLeft m later)).phase
  refine play.not_collecting_forever progress r fair collecting fun m later => ?_
  exact (play.collecting_succ (play.relies r m) (collecting m later)).resolve_left (notLeft m later)

/-! ## Waking (HD5, HD6) -/

/-- A sleeping host stays asleep through its cycle and keeps what it read. -/
theorem HostView.after_asleep {c : HostTunables} {h : HostView} {s : State} {m : HostMove} (d : HostDuties c h s m)
    (sleeping : h.phase = .sleeping) :
    (h.after s m).phase = .sleeping ∧ (h.after s m).idleSeen = h.idleSeen := by
  have idle := d.halted sleeping
  obtain ⟨noBegin, noClear, -⟩ := HostMove.of_idle idle
  rw [HostView.after_other noBegin (.inr noClear), HostMove.readsStatus_of_idle idle, sleeping]
  exact ⟨ite_self _, Bool.or_false _⟩

/-- HD6: a host that a request has not woken finds none. -/
theorem HostView.quiet_of_asleep {h : HostView} {s : State} (asleep : (h.wake s).phase = .sleeping) :
    ¬ s.btnIrq = true := by
  intro requested
  by_cases sleeping : h.phase = .sleeping
  · rw [HostView.wake_of_request sleeping requested] at asleep
    cases asleep
  · rw [HostView.wake_of_awake sleeping] at asleep
    exact sleeping asleep

/-- Settles O57: a sleeping host without a pending request has the arbiter armed, so the edge fires. -/
theorem hostWakesOnEdge : Obligations.HostWakesOnEdge := by
  intro c h h' s s' ms m r run d sleeping high low
  have r := (r.run run).wake
  obtain ⟨t, stepped, e⟩ := exists_step_cycleEffect (p := m.pins) s' rfl
  obtain ⟨noBegin, -, -, noDisarm, -⟩ := HostMove.of_idle (d.halted sleeping)
  obtain ⟨stillAsleep, idleSeen⟩ := HostView.after_asleep d sleeping
  have armed : s'.btnArmed = true := (r.wakeable sleeping).resolve_right (HostView.quiet_of_asleep sleeping)
  have armedIn : s'.armedIn m.pins = true := (s'.armedIn_iff _).mpr ⟨noDisarm, .inr armed⟩
  obtain ⟨-, disarmed, requested⟩ := e.of_edge high low
  rw [armedIn, Bool.true_or] at requested
  have idle : s'.collecting = false := r.displayingIdle (by rw [sleeping]; decide)
  refine ⟨t, stepped, requested, disarmed, e.collecting_of_idle idle noBegin, ?_⟩
  rw [HostView.wake_of_request stillAsleep requested, idleSeen, HostView.wake_idleSeen]

/-- The host sleeps, or displays an episode in which it has neither armed nor seen a request. -/
def HostView.inert (h : HostView) : Prop :=
  h.phase = .sleeping ∨ (h.phase = .displaying ∧ h.rearmed = false ∧ h.request = false)

theorem HostView.inert.wake {h : HostView} (i : h.inert) (s : State) : (h.wake s).inert := by
  unfold HostView.wake
  split
  · exact .inr ⟨rfl, rfl, rfl⟩
  · exact i

/-- HD1, HD2: an inert host writes no BEGIN, and without ARM it stays inert. -/
theorem HostView.inert.after {c : HostTunables} {h : HostView} {s : State} {m : HostMove} (i : h.inert)
    (d : HostDuties c h s m) (noArm : m.pins.arms = false) : m.pins.begins = false ∧ (h.after s m).inert := by
  obtain sleeping | ⟨displaying, notRearmed, noRequest⟩ := i
  · obtain ⟨noBegin, -⟩ := HostMove.of_idle (d.halted sleeping)
    exact ⟨noBegin, .inl (HostView.after_asleep d sleeping).1⟩
  · have noBegin : m.pins.begins = false := Bool.eq_false_iff.mpr fun begins => by
      obtain ⟨-, request, -⟩ := d.start begins
      rw [noRequest] at request
      cases request
    refine ⟨noBegin, ?_⟩
    rw [HostView.after_other noBegin (.inl (by rw [displaying]; decide)), displaying, notRearmed, noRequest, noArm,
      Bool.and_false]
    cases m.halts
    · exact .inr ⟨rfl, rfl, rfl⟩
    · exact .inl rfl

theorem HostRun.no_begin_of_inert {c : HostTunables} {h h' : HostView} {s s' : State} {ms : List HostMove}
    (run : HostRun c h s ms h' s') (i : h.inert) (noArm : ∀ m ∈ ms, m.pins.arms = false) :
    ∀ m ∈ ms, m.pins.begins = false := by
  induction run with
  | done => exact fun _ member => absurd member List.not_mem_nil
  | cycle duties _ _ ih =>
    obtain ⟨noArmFirst, noArmRest⟩ := List.forall_mem_cons.mp noArm
    obtain ⟨noBegin, stays⟩ := (i.wake _).after duties noArmFirst
    exact List.forall_mem_cons.mpr ⟨noBegin, ih stays noArmRest⟩

/-- Settles O59. -/
theorem wakeEdgeStartsNoCollection : Obligations.WakeEdgeStartsNoCollection :=
  fun _ _ _ _ _ _ sleeping run noArm => run.no_begin_of_inert (.inl sleeping) noArm

end Sys2Proof.Machine
end
